-- ==== Sys2Proof/Word.lean ====
section
/-! DEFINITION. The word types of the block: the widths that 10_state and 20_memory name. -/

namespace Sys2Proof

/-- One byte of the stream (00_scope R7). -/
abbrev Byte := BitVec 8

/-- Serial numbers, checksums, CRC values (R26). -/
abbrev Half := BitVec 16

/-- CSR words, stream offsets and counters (R13, R18, R20). -/
abbrev Word := BitVec 32

end Sys2Proof
end

