-- ==== Sys2Proof/Config.lean ====
section
/-! DEFINITION. The parameters of an instance (00_scope R6) and the values this hardware takes. -/

namespace Sys2Proof

/-- One offset table of the GPS/LBS extractor (R6, R136): where the date-time, GPS and LBS groups begin, and `fin`, where the
layout ends (the spec's `end`). -/
structure GpsOffsets where
  dt  : Nat
  gps : Nat
  lbs : Nat
  fin : Nat
  deriving DecidableEq, Repr

/-- The standard table `dt 0, gps 6, lbs 18, end 26` (R6, R135). -/
def GpsOffsets.standard : GpsOffsets := { dt := 0, gps := 6, lbs := 18, fin := 26 }

/-- The parameters of R6. OUTQ_DEPTH is unbounded in the model (R250), so it has no field. The constraints that R6 and R243 put on
an instance are carried as proofs (93_implementation_defined I23). -/
structure Config where
  /-- MAX_FRAME_LEN: the greatest total frame length. -/
  maxFrameLen : Nat
  /-- ACC_CAP: the capacity of the accumulator in bytes. -/
  accCap : Nat
  /-- ACK_SET: the protocol codes that need an acknowledgement (R77). -/
  ackSet : List Byte
  /-- TEXT_SET: the protocol codes whose payload is free text (R78). -/
  textSet : List Byte
  /-- GPS_OFFSETS(code) (R136). -/
  gpsOffsets : Byte → GpsOffsets
  /-- ID_VALUE (R21). -/
  idValue : Word
  minFrame : 10 ≤ maxFrameLen
  maxFrame : maxFrameLen ≤ 65541
  fits : maxFrameLen ≤ accCap

/-- The value column of R6: what this hardware takes (DESIGN CHOICE of the spec's value, unsafe for another instance: log 6). -/
def cfg : Config where
  maxFrameLen := 1024
  accCap := 2048
  ackSet := [0x01, 0x16, 0x19]
  textSet := [0x98, 0x99]
  gpsOffsets := fun _ => GpsOffsets.standard
  idValue := 0x46564531
  minFrame := by decide
  maxFrame := by decide
  fits := by decide

end Sys2Proof
end

