-- ==== Sys2Proof/Machine/Tables.lean ====
section
/-! DEFINITION. The lookup tables by protocol code (10_state R32; 30_encoding R68, R75 to R78). -/

namespace Sys2Proof.Machine

/-- The nineteen protocol codes of R68. -/
def knownCodes : List Byte :=
  [0x01, 0x02, 0x03, 0x10, 0x11, 0x12, 0x22, 0xA0, 0x13, 0x16, 0x19, 0x1A, 0x30, 0x69, 0x70, 0x8A, 0x94, 0x98, 0x99]

/-- `NAME_OF[p]` (R68, R75): the protocol name identifier, 0 for UNKNOWN. -/
def nameOf (p : Byte) : BitVec 4 :=
  match p with
  | 0x01#8 => 1
  | 0x02#8 => 2
  | 0x03#8 => 3
  | 0x10#8 => 4
  | 0x11#8 => 4
  | 0x12#8 => 4
  | 0x22#8 => 4
  | 0xA0#8 => 4
  | 0x13#8 => 5
  | 0x16#8 => 6
  | 0x19#8 => 7
  | 0x1A#8 => 8
  | 0x30#8 => 9
  | 0x69#8 => 10
  | 0x70#8 => 11
  | 0x8A#8 => 12
  | 0x94#8 => 13
  | 0x98#8 => 14
  | 0x99#8 => 14
  | _ => 0

/-- `KIND_OF[p]` (R68, R76): 0 OPAQUE, 1 LOGIN, 2 GPSLBS, 3 STATUS, 4 ALARM, 5 WIFI, 6 ICCID. -/
def kindOf (p : Byte) : BitVec 3 :=
  match p with
  | 0x01#8 => 1
  | 0x02#8 => 2
  | 0x10#8 => 2
  | 0x11#8 => 2
  | 0x12#8 => 2
  | 0x22#8 => 2
  | 0xA0#8 => 2
  | 0x13#8 => 3
  | 0x16#8 => 4
  | 0x19#8 => 2
  | 0x1A#8 => 2
  | 0x30#8 => 5
  | 0x69#8 => 6
  | _ => 0

/-- Membership in ACK_SET (R77). -/
def inAckSet (p : Byte) : Bool := cfg.ackSet.contains p

/-- Membership in TEXT_SET (R78). -/
def inTextSet (p : Byte) : Bool := cfg.textSet.contains p

/-- Printable ASCII, 0x20 to 0x7E (R120). -/
def printable (b : Byte) : Bool := 0x20 ≤ b.toNat && b.toNat ≤ 0x7E

end Sys2Proof.Machine
end

