-- ==== Sys2Proof/Syntax.lean ====
section
/-! DEFINITION. The instructions: one constructor per row of spec/opcode_table.json (00_scope R1, R5; 30_encoding R60 to R68), and
the forms in which instruction words reach the block (R64). -/

namespace Sys2Proof

/-- The instructions. A frame instruction carries what its format leaves to the frame (R61, R62): the payload and, in the STD format,
the serial number and the checksum field. The length field is the payload's length plus 5 (STD) or 1 (EXT). -/
inductive Instr where
  /-- LOGIN, STD frame with code 0x01 (R140). -/
  | login (payload : List Byte) (serial checksum : Half)
  /-- GPS, STD frame with code 0x02 (R141). -/
  | gps (payload : List Byte) (serial checksum : Half)
  /-- HEARTBEAT, STD frame with code 0x03 (R142). -/
  | heartbeat (payload : List Byte) (serial checksum : Half)
  /-- GPSLBS.10, STD frame with code 0x10 (R143). -/
  | gpsLbs10 (payload : List Byte) (serial checksum : Half)
  /-- GPSLBS.11, STD frame with code 0x11 (R144). -/
  | gpsLbs11 (payload : List Byte) (serial checksum : Half)
  /-- GPSLBS.12, STD frame with code 0x12 (R145). -/
  | gpsLbs12 (payload : List Byte) (serial checksum : Half)
  /-- GPSLBS.22, STD frame with code 0x22 (R146). -/
  | gpsLbs22 (payload : List Byte) (serial checksum : Half)
  /-- GPSLBS.A0, STD frame with code 0xA0 (R147). -/
  | gpsLbsA0 (payload : List Byte) (serial checksum : Half)
  /-- STATUS, STD frame with code 0x13 (R150). -/
  | status (payload : List Byte) (serial checksum : Half)
  /-- ALARM, STD frame with code 0x16 (R152). -/
  | alarm (payload : List Byte) (serial checksum : Half)
  /-- GPSLBS.EXT, STD frame with code 0x19 (R148). -/
  | gpsLbsExt (payload : List Byte) (serial checksum : Half)
  /-- GPSLBS.DATA, STD frame with code 0x1A (R149). -/
  | gpsLbsData (payload : List Byte) (serial checksum : Half)
  /-- WIFI, STD frame with code 0x30 (R154). -/
  | wifi (payload : List Byte) (serial checksum : Half)
  /-- ICCID, STD frame with code 0x69 (R156). -/
  | iccid (payload : List Byte) (serial checksum : Half)
  /-- LOCREP, STD frame with code 0x70 (R158). -/
  | locRep (payload : List Byte) (serial checksum : Half)
  /-- STATCMD, STD frame with code 0x8A (R159). -/
  | statCmd (payload : List Byte) (serial checksum : Half)
  /-- INFOTX, STD frame with code 0x94 (R160). -/
  | infoTx (payload : List Byte) (serial checksum : Half)
  /-- EXTCMD.98, STD frame with code 0x98 (R161). -/
  | extCmd98 (payload : List Byte) (serial checksum : Half)
  /-- EXTCMD.99, STD frame with code 0x99 (R162). -/
  | extCmd99 (payload : List Byte) (serial checksum : Half)
  /-- LOGIN, EXT frame with code 0x01 (R140). -/
  | loginX (payload : List Byte)
  /-- GPS, EXT frame with code 0x02 (R141). -/
  | gpsX (payload : List Byte)
  /-- HEARTBEAT, EXT frame with code 0x03 (R142). -/
  | heartbeatX (payload : List Byte)
  /-- GPSLBS.10, EXT frame with code 0x10 (R143). -/
  | gpsLbs10X (payload : List Byte)
  /-- GPSLBS.11, EXT frame with code 0x11 (R144). -/
  | gpsLbs11X (payload : List Byte)
  /-- GPSLBS.12, EXT frame with code 0x12 (R145). -/
  | gpsLbs12X (payload : List Byte)
  /-- GPSLBS.22, EXT frame with code 0x22 (R146). -/
  | gpsLbs22X (payload : List Byte)
  /-- GPSLBS.A0, EXT frame with code 0xA0 (R147). -/
  | gpsLbsA0X (payload : List Byte)
  /-- STATUS, EXT frame with code 0x13 (R150). -/
  | statusX (payload : List Byte)
  /-- ALARM, EXT frame with code 0x16 (R152). -/
  | alarmX (payload : List Byte)
  /-- GPSLBS.EXT, EXT frame with code 0x19 (R148). -/
  | gpsLbsExtX (payload : List Byte)
  /-- GPSLBS.DATA, EXT frame with code 0x1A (R149). -/
  | gpsLbsDataX (payload : List Byte)
  /-- WIFI, EXT frame with code 0x30 (R154). -/
  | wifiX (payload : List Byte)
  /-- ICCID, EXT frame with code 0x69 (R156). -/
  | iccidX (payload : List Byte)
  /-- LOCREP, EXT frame with code 0x70 (R158). -/
  | locRepX (payload : List Byte)
  /-- STATCMD, EXT frame with code 0x8A (R159). -/
  | statCmdX (payload : List Byte)
  /-- INFOTX, EXT frame with code 0x94 (R160). -/
  | infoTxX (payload : List Byte)
  /-- EXTCMD.98, EXT frame with code 0x98 (R161). -/
  | extCmd98X (payload : List Byte)
  /-- EXTCMD.99, EXT frame with code 0x99 (R162). -/
  | extCmd99X (payload : List Byte)
  /-- UNKNOWN, STD frame with a code outside the nineteen of R68 (R163). -/
  | unknown (proto : Byte) (payload : List Byte) (serial checksum : Half)
  /-- UNKNOWN, EXT frame with a code outside the nineteen of R68 (R163). -/
  | unknownX (proto : Byte) (payload : List Byte)
  /-- ACK, the outbound acknowledgement frame (R63, R185). -/
  | ack (proto : Byte) (serial crc : Half)
  /-- RX, one beat of the receive port (R90). -/
  | rx (data : Byte) (last : Bool)
  /-- CSR_READ at a byte offset (R195). -/
  | csrRead (offset : Byte)
  /-- CSR_WRITE of a word at a byte offset (R196). -/
  | csrWrite (offset : Byte) (value : Word)
  /-- CMD.FLUSH (R197). -/
  | cmdFlush
  /-- CMD.SRESET (R198). -/
  | cmdSreset
  /-- CMD.CRC_INIT (R199). -/
  | cmdCrcInit
  /-- CMD.POP_REC (R200). -/
  | cmdPopRec
  /-- CMD.POP_ACK (R201). -/
  | cmdPopAck
  /-- CRC.DATA, one byte into the direct CRC port (R178). -/
  | crcData (data : Byte)
  /-- CRC.VALUE, a read of the direct CRC port (R179). -/
  | crcValue
  /-- ACK.REQ, the acknowledgement builder on the host's request (R188). -/
  | ackReq (proto : Byte) (serial : Half)
  /-- REC.PEEK, the head record (R202). -/
  | recPeek
  /-- ACK.PEEK, the head acknowledgement (R203). -/
  | ackPeek
  /-- HRESET, the reset input (R240). -/
  | hreset
  deriving DecidableEq, Repr

/-- A word at one of the block's ports, as the host presents it (R64; 92_eei_decisions D2). -/
inductive PortWord where
  /-- The RX port: bit 8 `last`, bits 7:0 `data`. -/
  | rx (beat : BitVec 9)
  /-- The CSR port: bit 40 `we`, bits 39:32 offset, bits 31:0 write data. -/
  | csr (access : BitVec 41)
  /-- The REC port's PEEK: no operand. -/
  | recPeek
  /-- The ACK port's PEEK: no operand. -/
  | ackPeek
  /-- The reset input: no operand. -/
  | hreset
  /-- A whole ACK frame, 80 bits, first byte most significant (R63, R80), offered to the acknowledgement builder (DESIGN CHOICE,
  safe: log 3). -/
  | ack (frame : BitVec 80)
  deriving DecidableEq, Repr

/-- An encoded instruction: the bytes of one inbound frame, or a port word. -/
inductive Encoded where
  | frame (bytes : List Byte)
  | port (word : PortWord)
  deriving DecidableEq, Repr

/-- Why bytes or a word are not decoded to an instruction. The first six are the detector's outcomes other than a yield (R93, R95,
R97 to R100). -/
inductive DecodeReject where
  /-- No start marker at the head (R60, R93). -/
  | noMarker
  /-- The length field is not there yet (R95). -/
  | needLength
  /-- The total length exceeds MAX_FRAME_LEN (R97). -/
  | overLength
  /-- The declared length is below the layout's minimum (R98). -/
  | runt
  /-- The candidate is not complete yet (R99). -/
  | needBody
  /-- The last two bytes are not the stop marker (R100). -/
  | badStop
  /-- Bytes follow the frame where exactly one frame was offered. -/
  | trailing
  /-- An 80-bit word that has not the ACK format of R63. -/
  | notAckFormat
  deriving DecidableEq, Repr

end Sys2Proof
end

