-- ==== Sys2Proof/WellFormed.lean ====
section
/-! DEFINITION. Which instructions the encodings admit (30_encoding R61 to R64, R67, R82). -/

namespace Sys2Proof

/-- An STD payload: `L = n + 5 <= 255` (R61, R82) and `T = n + 10 <= MAX_FRAME_LEN` (R97). -/
def stdPayloadOk (payload : List Byte) : Bool :=
  payload.length ≤ 250 && payload.length + 10 ≤ cfg.maxFrameLen

/-- An EXT payload: `T = n + 7 <= MAX_FRAME_LEN` (R62, R82). -/
def extPayloadOk (payload : List Byte) : Bool := payload.length + 7 ≤ cfg.maxFrameLen

/-- A CSR write whose word is the word of one of the operations with a row of their own: the five commands (R24), CRC.DATA (R178)
and ACK.REQ (R188). -/
def csrWriteHasRow (offset : Byte) (value : Word) : Bool :=
  (offset == 0x28 && (1 ≤ value.toNat && value.toNat ≤ 5)) || offset == 0x2C || offset == 0x34

/-- Well-formed instructions: those that the encodings of R61 to R64 can write. A CSR access that is written as one of the special
rows of the table (CMD.*, CRC.DATA, ACK.REQ, CRC.VALUE) is well-formed as that row only. -/
def wellFormed (i : Instr) : Bool :=
  match i with
  | .login payload _ _ => stdPayloadOk payload
  | .gps payload _ _ => stdPayloadOk payload
  | .heartbeat payload _ _ => stdPayloadOk payload
  | .gpsLbs10 payload _ _ => stdPayloadOk payload
  | .gpsLbs11 payload _ _ => stdPayloadOk payload
  | .gpsLbs12 payload _ _ => stdPayloadOk payload
  | .gpsLbs22 payload _ _ => stdPayloadOk payload
  | .gpsLbsA0 payload _ _ => stdPayloadOk payload
  | .status payload _ _ => stdPayloadOk payload
  | .alarm payload _ _ => stdPayloadOk payload
  | .gpsLbsExt payload _ _ => stdPayloadOk payload
  | .gpsLbsData payload _ _ => stdPayloadOk payload
  | .wifi payload _ _ => stdPayloadOk payload
  | .iccid payload _ _ => stdPayloadOk payload
  | .locRep payload _ _ => stdPayloadOk payload
  | .statCmd payload _ _ => stdPayloadOk payload
  | .infoTx payload _ _ => stdPayloadOk payload
  | .extCmd98 payload _ _ => stdPayloadOk payload
  | .extCmd99 payload _ _ => stdPayloadOk payload
  | .loginX payload => extPayloadOk payload
  | .gpsX payload => extPayloadOk payload
  | .heartbeatX payload => extPayloadOk payload
  | .gpsLbs10X payload => extPayloadOk payload
  | .gpsLbs11X payload => extPayloadOk payload
  | .gpsLbs12X payload => extPayloadOk payload
  | .gpsLbs22X payload => extPayloadOk payload
  | .gpsLbsA0X payload => extPayloadOk payload
  | .statusX payload => extPayloadOk payload
  | .alarmX payload => extPayloadOk payload
  | .gpsLbsExtX payload => extPayloadOk payload
  | .gpsLbsDataX payload => extPayloadOk payload
  | .wifiX payload => extPayloadOk payload
  | .iccidX payload => extPayloadOk payload
  | .locRepX payload => extPayloadOk payload
  | .statCmdX payload => extPayloadOk payload
  | .infoTxX payload => extPayloadOk payload
  | .extCmd98X payload => extPayloadOk payload
  | .extCmd99X payload => extPayloadOk payload
  | .unknown proto payload _ _ => !Machine.knownCodes.contains proto && stdPayloadOk payload
  | .unknownX proto payload => !Machine.knownCodes.contains proto && extPayloadOk payload
  | .ack proto serial crc => crc == Machine.crc16 [0x05, proto, serial.extractLsb' 8 8, serial.extractLsb' 0 8]
  | .rx _ _ => true
  | .csrRead offset => !(offset == 0x30)
  | .csrWrite offset value => !csrWriteHasRow offset value
  | .cmdFlush => true
  | .cmdSreset => true
  | .cmdCrcInit => true
  | .cmdPopRec => true
  | .cmdPopAck => true
  | .crcData _ => true
  | .crcValue => true
  | .ackReq _ _ => true
  | .recPeek => true
  | .ackPeek => true
  | .hreset => true

end Sys2Proof
end

