-- ==== Sys2Proof/Decode.lean ====
section
/-! DEFINITION. The decoder, total on any bytes and any port word, and after it the encoder (30_encoding R60 to R68, R79, R80;
40_framing R95 to R101). -/

namespace Sys2Proof

/-- `hi8(w)` (00_scope R7). -/
def hi8 (w : Half) : Byte := w.extractLsb' 8 8

/-- `lo8(w)` (00_scope R7). -/
def lo8 (w : Half) : Byte := w.extractLsb' 0 8

/-- `BE16` of two bytes, the first the most significant (R7, R44). -/
def be16 (first second : Byte) : Half := first ++ second

/-- `S[i]` (R7). Every use stands behind a test that `i < len(S)` (R40); past the end the value is 0 and is never used. -/
def byteAt (bytes : List Byte) (i : Nat) : Byte := bytes.getD i 0

/-- The STD instruction of a protocol code (R67, R68). -/
def selectStd (proto : Byte) (payload : List Byte) (serial checksum : Half) : Instr :=
  match proto with
  | 0x01#8 => .login payload serial checksum
  | 0x02#8 => .gps payload serial checksum
  | 0x03#8 => .heartbeat payload serial checksum
  | 0x10#8 => .gpsLbs10 payload serial checksum
  | 0x11#8 => .gpsLbs11 payload serial checksum
  | 0x12#8 => .gpsLbs12 payload serial checksum
  | 0x22#8 => .gpsLbs22 payload serial checksum
  | 0xA0#8 => .gpsLbsA0 payload serial checksum
  | 0x13#8 => .status payload serial checksum
  | 0x16#8 => .alarm payload serial checksum
  | 0x19#8 => .gpsLbsExt payload serial checksum
  | 0x1A#8 => .gpsLbsData payload serial checksum
  | 0x30#8 => .wifi payload serial checksum
  | 0x69#8 => .iccid payload serial checksum
  | 0x70#8 => .locRep payload serial checksum
  | 0x8A#8 => .statCmd payload serial checksum
  | 0x94#8 => .infoTx payload serial checksum
  | 0x98#8 => .extCmd98 payload serial checksum
  | 0x99#8 => .extCmd99 payload serial checksum
  | _ => .unknown proto payload serial checksum

/-- The EXT instruction of a protocol code (R67, R68). -/
def selectExt (proto : Byte) (payload : List Byte) : Instr :=
  match proto with
  | 0x01#8 => .loginX payload
  | 0x02#8 => .gpsX payload
  | 0x03#8 => .heartbeatX payload
  | 0x10#8 => .gpsLbs10X payload
  | 0x11#8 => .gpsLbs11X payload
  | 0x12#8 => .gpsLbs12X payload
  | 0x22#8 => .gpsLbs22X payload
  | 0xA0#8 => .gpsLbsA0X payload
  | 0x13#8 => .statusX payload
  | 0x16#8 => .alarmX payload
  | 0x19#8 => .gpsLbsExtX payload
  | 0x1A#8 => .gpsLbsDataX payload
  | 0x30#8 => .wifiX payload
  | 0x69#8 => .iccidX payload
  | 0x70#8 => .locRepX payload
  | 0x8A#8 => .statCmdX payload
  | 0x94#8 => .infoTxX payload
  | 0x98#8 => .extCmd98X payload
  | 0x99#8 => .extCmd99X payload
  | _ => .unknownX proto payload

/-- The last two bytes of the `total` bytes at the head are `0D 0A` (R100). -/
def stopMarkerAt (bytes : List Byte) (total : Nat) : Bool :=
  byteAt bytes (total - 2) == 0x0D && byteAt bytes (total - 1) == 0x0A

/-- A candidate that begins `78 78` (R61, R95 to R101): the instruction and the bytes after its frame. -/
def decodeStd (bytes : List Byte) : Except DecodeReject (Instr × List Byte) :=
  if bytes.length < 3 then .error .needLength
  else
    let len := (byteAt bytes 2).toNat
    let total := len + 5
    if cfg.maxFrameLen < total then .error .overLength
    else if len < 5 then .error .runt
    else if bytes.length < total then .error .needBody
    else if !stopMarkerAt bytes total then .error .badStop
    else .ok (selectStd (byteAt bytes 3) ((bytes.drop 4).take (len - 5))
      (be16 (byteAt bytes (total - 6)) (byteAt bytes (total - 5)))
      (be16 (byteAt bytes (total - 4)) (byteAt bytes (total - 3))), bytes.drop total)

/-- A candidate that begins `79 79` (R62, R95 to R101). -/
def decodeExt (bytes : List Byte) : Except DecodeReject (Instr × List Byte) :=
  if bytes.length < 4 then .error .needLength
  else
    let len := (be16 (byteAt bytes 2) (byteAt bytes 3)).toNat
    let total := len + 6
    if cfg.maxFrameLen < total then .error .overLength
    else if len < 1 then .error .runt
    else if bytes.length < total then .error .needBody
    else if !stopMarkerAt bytes total then .error .badStop
    else .ok (selectExt (byteAt bytes 4) ((bytes.drop 5).take (len - 1)), bytes.drop total)

/-- The frame at the head of a byte sequence (R60, R67): the instruction and the bytes that follow it, or the reason there is none,
tested in the order of R91. -/
def decodeFrame (bytes : List Byte) : Except DecodeReject (Instr × List Byte) :=
  match bytes with
  | b0 :: b1 :: _ =>
    if b0 = 0x78 ∧ b1 = 0x78 then decodeStd bytes
    else if b0 = 0x79 ∧ b1 = 0x79 then decodeExt bytes
    else .error .noMarker
  | _ => .error .noMarker

/-- A write at the CSR port (R196): the row that the word is an instance of (DEDUCED, safe: log 11). -/
def selectCsrWrite (offset : Byte) (value : Word) : Instr :=
  if offset = 0x28 then
    match value with
    | 1#32 => .cmdFlush
    | 2#32 => .cmdSreset
    | 3#32 => .cmdCrcInit
    | 4#32 => .cmdPopRec
    | 5#32 => .cmdPopAck
    | _ => .csrWrite offset value
  else if offset = 0x2C then .crcData (value.extractLsb' 0 8)
  else if offset = 0x34 then .ackReq (value.extractLsb' 16 8) (value.extractLsb' 0 16)
  else .csrWrite offset value

/-- A CSR access (R64): bit 40 `we`, bits 39:32 offset, bits 31:0 data; a read ignores the data. -/
def decodeCsr (access : BitVec 41) : Instr :=
  let offset := access.extractLsb' 32 8
  if access.getLsbD 40 then selectCsrWrite offset (access.extractLsb' 0 32)
  else if offset = 0x30 then .crcValue
  else .csrRead offset

/-- An 80-bit ACK frame (R63): the fixed bytes are tested, protocol, serial and CRC are read. -/
def decodeAck (frame : BitVec 80) : Except DecodeReject Instr :=
  if frame.extractLsb' 56 24 = 0x787805 ∧ frame.extractLsb' 0 16 = 0x0D0A then
    .ok (.ack (frame.extractLsb' 48 8) (frame.extractLsb' 32 16) (frame.extractLsb' 16 16))
  else .error .notAckFormat

/-- The instruction at a port (R5, R64). -/
def decodePort (word : PortWord) : Except DecodeReject Instr :=
  match word with
  | .rx beat => .ok (.rx (beat.extractLsb' 0 8) (beat.getLsbD 8))
  | .csr access => .ok (decodeCsr access)
  | .recPeek => .ok .recPeek
  | .ackPeek => .ok .ackPeek
  | .hreset => .ok .hreset
  | .ack frame => decodeAck frame

/-- The decoder: exactly one frame, or a port word. -/
def decode (e : Encoded) : Except DecodeReject Instr :=
  match e with
  | .port word => decodePort word
  | .frame bytes =>
    match decodeFrame bytes with
    | .ok (i, []) => .ok i
    | .ok (_, _ :: _) => .error .trailing
    | .error r => .error r

/-! The encoder. -/

/-- The STD length byte `L = n + 5` (R61). -/
def stdLen (payload : List Byte) : Byte := BitVec.ofNat 8 (payload.length + 5)

/-- The EXT length field `L = n + 1` (R62). -/
def extLen (payload : List Byte) : Half := BitVec.ofNat 16 (payload.length + 1)

/-- `F[2 .. T-4)` of an STD frame: length, protocol, payload, serial; the bytes the CRC covers (R61, R174). -/
def stdCovered (proto : Byte) (payload : List Byte) (serial : Half) : List Byte :=
  stdLen payload :: proto :: (payload ++ [hi8 serial, lo8 serial])

/-- The bytes of an STD frame (R61). -/
def stdFrame (proto : Byte) (payload : List Byte) (serial checksum : Half) : List Byte :=
  0x78 :: 0x78 :: (stdCovered proto payload serial ++ [hi8 checksum, lo8 checksum, 0x0D, 0x0A])

/-- The bytes of an EXT frame (R62). -/
def extFrame (proto : Byte) (payload : List Byte) : List Byte :=
  0x79 :: 0x79 :: hi8 (extLen payload) :: lo8 (extLen payload) :: proto :: (payload ++ [0x0D, 0x0A])

/-- A CSR read word (R64). -/
def csrReadWord (offset : Byte) : PortWord := .csr (0#1 ++ offset ++ 0#32)

/-- A CSR write word (R64). -/
def csrWriteWord (offset : Byte) (value : Word) : PortWord := .csr (1#1 ++ offset ++ value)

/-- The encoder: the bytes or the port word of an instruction. Bits the block ignores (R64) are written 0. -/
def encode (i : Instr) : Encoded :=
  match i with
  | .login payload serial checksum => .frame (stdFrame 0x01 payload serial checksum)
  | .gps payload serial checksum => .frame (stdFrame 0x02 payload serial checksum)
  | .heartbeat payload serial checksum => .frame (stdFrame 0x03 payload serial checksum)
  | .gpsLbs10 payload serial checksum => .frame (stdFrame 0x10 payload serial checksum)
  | .gpsLbs11 payload serial checksum => .frame (stdFrame 0x11 payload serial checksum)
  | .gpsLbs12 payload serial checksum => .frame (stdFrame 0x12 payload serial checksum)
  | .gpsLbs22 payload serial checksum => .frame (stdFrame 0x22 payload serial checksum)
  | .gpsLbsA0 payload serial checksum => .frame (stdFrame 0xA0 payload serial checksum)
  | .status payload serial checksum => .frame (stdFrame 0x13 payload serial checksum)
  | .alarm payload serial checksum => .frame (stdFrame 0x16 payload serial checksum)
  | .gpsLbsExt payload serial checksum => .frame (stdFrame 0x19 payload serial checksum)
  | .gpsLbsData payload serial checksum => .frame (stdFrame 0x1A payload serial checksum)
  | .wifi payload serial checksum => .frame (stdFrame 0x30 payload serial checksum)
  | .iccid payload serial checksum => .frame (stdFrame 0x69 payload serial checksum)
  | .locRep payload serial checksum => .frame (stdFrame 0x70 payload serial checksum)
  | .statCmd payload serial checksum => .frame (stdFrame 0x8A payload serial checksum)
  | .infoTx payload serial checksum => .frame (stdFrame 0x94 payload serial checksum)
  | .extCmd98 payload serial checksum => .frame (stdFrame 0x98 payload serial checksum)
  | .extCmd99 payload serial checksum => .frame (stdFrame 0x99 payload serial checksum)
  | .loginX payload => .frame (extFrame 0x01 payload)
  | .gpsX payload => .frame (extFrame 0x02 payload)
  | .heartbeatX payload => .frame (extFrame 0x03 payload)
  | .gpsLbs10X payload => .frame (extFrame 0x10 payload)
  | .gpsLbs11X payload => .frame (extFrame 0x11 payload)
  | .gpsLbs12X payload => .frame (extFrame 0x12 payload)
  | .gpsLbs22X payload => .frame (extFrame 0x22 payload)
  | .gpsLbsA0X payload => .frame (extFrame 0xA0 payload)
  | .statusX payload => .frame (extFrame 0x13 payload)
  | .alarmX payload => .frame (extFrame 0x16 payload)
  | .gpsLbsExtX payload => .frame (extFrame 0x19 payload)
  | .gpsLbsDataX payload => .frame (extFrame 0x1A payload)
  | .wifiX payload => .frame (extFrame 0x30 payload)
  | .iccidX payload => .frame (extFrame 0x69 payload)
  | .locRepX payload => .frame (extFrame 0x70 payload)
  | .statCmdX payload => .frame (extFrame 0x8A payload)
  | .infoTxX payload => .frame (extFrame 0x94 payload)
  | .extCmd98X payload => .frame (extFrame 0x98 payload)
  | .extCmd99X payload => .frame (extFrame 0x99 payload)
  | .unknown proto payload serial checksum => .frame (stdFrame proto payload serial checksum)
  | .unknownX proto payload => .frame (extFrame proto payload)
  | .ack proto serial crc => .port (.ack (0x787805#24 ++ proto ++ serial ++ crc ++ 0x0D0A#16))
  | .rx data last => .port (.rx (BitVec.ofBool last ++ data))
  | .csrRead offset => .port (csrReadWord offset)
  | .csrWrite offset value => .port (csrWriteWord offset value)
  | .cmdFlush => .port (csrWriteWord 0x28 1)
  | .cmdSreset => .port (csrWriteWord 0x28 2)
  | .cmdCrcInit => .port (csrWriteWord 0x28 3)
  | .cmdPopRec => .port (csrWriteWord 0x28 4)
  | .cmdPopAck => .port (csrWriteWord 0x28 5)
  | .crcData data => .port (csrWriteWord 0x2C (0#24 ++ data))
  | .crcValue => .port (csrReadWord 0x30)
  | .ackReq proto serial => .port (csrWriteWord 0x34 (0#8 ++ proto ++ serial))
  | .recPeek => .port .recPeek
  | .ackPeek => .port .ackPeek
  | .hreset => .port .hreset

/-! The opcode table's words (R80). -/

/-- The STD frame a 32-bit prefix word `78 78 L p` begins, completed with zero payload, serial and checksum and with the stop marker.
A length byte below the layout's minimum is no frame (R98) and stands for the shortest one (DESIGN CHOICE, safe: log 8). -/
def tableStd (w : Nat) : List Byte :=
  let len := w / 2 ^ 8 % 2 ^ 8
  stdFrame (BitVec.ofNat 8 w) (List.replicate (len - 5) 0) 0 0

/-- The EXT frame a 40-bit prefix word `79 79 Lh Ll p` begins, completed alike; an over-length prefix is left as it is (log 8). -/
def tableExt (w : Nat) : List Byte :=
  let len := w / 2 ^ 8 % 2 ^ 16
  if cfg.maxFrameLen < len + 6 then
    [0x79, 0x79, BitVec.ofNat 8 (len / 2 ^ 8), BitVec.ofNat 8 len, BitVec.ofNat 8 w]
  else extFrame (BitVec.ofNat 8 w) (List.replicate (len - 1) 0)

/-- The 32-bit words of the table: STD prefix words, CMD words, CRC_DATA words and ACKREQ words share one width; they are told apart
by value, in that order (DESIGN CHOICE, safe: log 8). -/
def tableImage32 (w : Nat) : Option Encoded :=
  if w / 2 ^ 16 = 0x7878 then some (.frame (tableStd w))
  else if 2 ^ 32 ≤ w then none
  else if 1 ≤ w ∧ w ≤ 5 then some (.port (csrWriteWord 0x28 (BitVec.ofNat 32 w)))
  else if w < 2 ^ 8 then some (.port (csrWriteWord 0x2C (BitVec.ofNat 32 w)))
  else some (.port (csrWriteWord 0x34 (BitVec.ofNat 32 w)))

/-- An opcode-table word laid out as the block receives it (R80). The patterns of 9 bits (RX beat) and 41 bits (CSR access) of R64 are
taken in whole bytes only, as words of width 16 and 48 whose bits above the pattern are 0; at the widths 9 and 41 themselves, as at
every width of no row, the answer is none (DESIGN CHOICE, safe: log 8). REC.PEEK, ACK.PEEK and HRESET have no bits; they are numbered
0, 1, 2 in the table's order (log 8). -/
def tableImage (nbits w : Nat) : Option Encoded :=
  match nbits with
  | 32 => tableImage32 w
  | 40 => if w / 2 ^ 24 = 0x7979 then some (.frame (tableExt w)) else none
  | 80 => if w < 2 ^ 80 then some (.port (.ack (BitVec.ofNat 80 w))) else none
  | 16 => if w < 2 ^ 9 then some (.port (.rx (BitVec.ofNat 9 w))) else none
  | 48 => if w < 2 ^ 41 then some (.port (.csr (BitVec.ofNat 41 w))) else none
  | 0 =>
    match w with
    | 0 => some (.port .recPeek)
    | 1 => some (.port .ackPeek)
    | 2 => some (.port .hreset)
    | _ => none
  | _ => none

/-- The instruction the decoder reads from an opcode-table word. -/
def decodeTableWord (nbits w : Nat) : Option Instr :=
  match tableImage nbits w with
  | some e =>
    match decode e with
    | .ok i => some i
    | .error _ => none
  | none => none

end Sys2Proof
end

