-- ==== Sys2Proof/Machine/State.lean ====
section
/-! DEFINITION. The state of one FVE instance (10_state R10 to R31) as plain data, and its reset values (R35, 70_reset R240). -/

namespace Sys2Proof.Machine

/-- LOGIN fields (R27). -/
structure LoginRegs where
  /-- V_TID, TID: the terminal identifier. -/
  vTid : Bool := false
  tid : BitVec 64 := 0
  /-- V_DEVTYPE, DEVTYPE. -/
  vDevType : Bool := false
  devType : Half := 0
  /-- V_TZ, TZ: two's complement pattern. -/
  vTz : Bool := false
  tz : Half := 0
  deriving DecidableEq, Repr

/-- Date-time fields (R28). -/
structure DateTimeRegs where
  /-- V_DTP: the six bytes are present. -/
  vDtp : Bool := false
  /-- V_DT: they are present and in range. -/
  vDt : Bool := false
  year : BitVec 12 := 0
  mon : Byte := 0
  day : Byte := 0
  hour : Byte := 0
  min : Byte := 0
  sec : Byte := 0
  deriving DecidableEq, Repr

/-- GPS fields (R28). -/
structure GpsRegs where
  vGps : Bool := false
  gpsLen : BitVec 4 := 0
  sats : BitVec 4 := 0
  latRaw : Word := 0
  lonRaw : Word := 0
  /-- LAT_UDEG, LON_UDEG: 33 bits two's complement. -/
  latUdeg : BitVec 33 := 0
  lonUdeg : BitVec 33 := 0
  speed : Byte := 0
  csw : Half := 0
  course : BitVec 10 := 0
  north : Bool := false
  west : Bool := false
  fixValid : Bool := false
  rtBit : Bool := false
  deriving DecidableEq, Repr

/-- LBS fields (R28). -/
structure LbsRegs where
  vLbs : Bool := false
  mcc : Half := 0
  mnc : Byte := 0
  lac : Half := 0
  cellId : BitVec 24 := 0
  deriving DecidableEq, Repr

/-- STATUS fields (R29). -/
structure StatusRegs where
  vSt : Bool := false
  stByte : Byte := 0
  oilElec : Bool := false
  gpsTracking : Bool := false
  charging : Bool := false
  ignition : Bool := false
  defence : Bool := false
  flag5 : Bool := false
  sigLvl : BitVec 2 := 0
  vVolt : Bool := false
  volt : Half := 0
  vSig : Bool := false
  sig : Byte := 0
  vLang : Bool := false
  lang : Half := 0
  deriving DecidableEq, Repr

/-- ALARM fields (R30). -/
structure AlarmRegs where
  vAl : Bool := false
  alByte : Byte := 0
  emergency : Bool := false
  overspeed : Bool := false
  lowPower : Bool := false
  shock : Bool := false
  geoIn : Bool := false
  geoOut : Bool := false
  idle : Bool := false
  distance : Bool := false
  deriving DecidableEq, Repr

/-- One access point of a WIFI record (R31). -/
structure ApEntry where
  mac : BitVec 48
  rssi : Byte
  deriving DecidableEq, Repr

/-- WIFI fields (R31). -/
structure WifiRegs where
  vWn : Bool := false
  nDecl : Byte := 0
  n : Byte := 0
  ap : List ApEntry := []
  deriving DecidableEq, Repr

/-- ICCID fields (R31). `dig` holds the twenty digits in string order, twenty zeros when there is no ICCID (DEDUCED, safe: log 12). -/
structure IccidRegs where
  vIccid : Bool := false
  dig : List (BitVec 4) := List.replicate 20 0
  iccidDec : Bool := false
  deriving DecidableEq, Repr

/-- One image of the record register bank RR (R25 to R31). The default of every field is the all-zero image of R25. -/
structure Record where
  raw : List Byte := []
  rawLen : BitVec 17 := 0
  seq : Word := 0
  offset : Word := 0
  ext : Bool := false
  len : Half := 0
  proto : Byte := 0
  name : BitVec 4 := 0
  serial : Half := 0
  checksum : Half := 0
  ack : Bool := false
  crc : Half := 0
  crcChk : Bool := false
  crcOk : Bool := false
  payOff : BitVec 3 := 0
  payLen : Half := 0
  kind : BitVec 3 := 0
  short : Bool := false
  print : Bool := false
  text : Bool := false
  login : LoginRegs := {}
  dt : DateTimeRegs := {}
  gps : GpsRegs := {}
  lbs : LbsRegs := {}
  tailOff : Half := 0
  tailLen : Half := 0
  st : StatusRegs := {}
  al : AlarmRegs := {}
  wifi : WifiRegs := {}
  iccid : IccidRegs := {}
  deriving DecidableEq, Repr

/-- What a reading operation returns to the host (R195, R202, R203, R185). -/
inductive Result where
  /-- Nothing has been read since reset. -/
  | none
  /-- The word of a CSR read (R195). -/
  | word (value : Word)
  /-- The image of REC.PEEK, or none when RECQ is empty (R202). -/
  | record (image : Option Record)
  /-- The frame of ACK.PEEK, or none when ACKQ is empty (R203). -/
  | ackFrame (frame : Option (List Byte))
  /-- The ten bytes that the acknowledgement builder made (R185). -/
  | built (frame : List Byte)
  deriving DecidableEq, Repr

/-- The state: the tuple of R10, then two fields of the model. -/
structure State where
  /-- ACC, the accumulator, first byte first (R11). -/
  acc : List Byte
  /-- HEAD, the stream offset of `ACC[0]` (R13). -/
  head : Word
  /-- HALTED (R14). -/
  halted : Bool
  /-- CTRL.CRC_ENFORCE (R22). -/
  crcEnforce : Bool
  /-- CTRL.ACK_EN (R22). -/
  ackEn : Bool
  /-- STATUS bits 8:0 (R23). -/
  status : BitVec 9
  /-- LASTERR, LASTOFF (R19). -/
  lastErr : BitVec 4
  lastOff : Word
  /-- The four counters (R18). -/
  cntFrames : Word
  cntDropped : Word
  cntFramErr : Word
  cntCrcErr : Word
  /-- CRC_REG, the direct CRC port's register (R15). -/
  crcReg : Half
  /-- RECQ, head first (R16), unbounded as ACKQ is (DEDUCED from R6, unsafe for finite queues: log 9). -/
  recq : List Record
  /-- ACKQ, head first (R17). -/
  ackq : List (List Byte)
  /-- The MODEL's own: the host operations not yet performed, oldest first (DESIGN CHOICE: log 1). -/
  inbox : List PortWord
  /-- The MODEL's own: what the last reading operation returned to the host (DESIGN CHOICE: log 2). -/
  result : Result
  deriving DecidableEq, Repr

/-- The machine right after reset (R35, R240). -/
def State.reset : State where
  acc := []
  head := 0
  halted := false
  crcEnforce := false
  ackEn := true
  status := 0
  lastErr := 0
  lastOff := 0
  cntFrames := 0
  cntDropped := 0
  cntFramErr := 0
  cntCrcErr := 0
  crcReg := 0xFFFF
  recq := []
  ackq := []
  inbox := []
  result := .none

/-- Faults. No constructor: no operation of this block stops it. Errors are events, which transfer control nowhere (60_exceptions
R215, R216, R221), and every operation is total (R122, R255; 93_implementation_defined, end of part 1). Safe. -/
inductive Fault where
  deriving DecidableEq, Repr

/-- Refusals. -/
inductive Refusal where
  /-- Raised by an arm of `exec` whose instruction has no meaning yet, with its mnemonic; no arm raises it now. Safe: the machine
  stops. -/
  | notModelled (mnemonic : String)
  /-- Raised by `step` on a port word that decodes to no instruction: an 80-bit word offered as an ACK frame without the fixed bytes
  of R63. The spec gives such a word no meaning. Safe: the machine stops. -/
  | undecodable (why : DecodeReject)
  deriving DecidableEq, Repr

end Sys2Proof.Machine
end

