-- ==== Sys2Proof/Machine/Operands.lean ====
section
/-! DEFINITION. How values are assembled from payload bytes (20_memory R44, R45, R47; 30_encoding R66; 42_extractors R130, R133). -/

namespace Sys2Proof.Machine

/-- `BE(S)` (00_scope R7, R44): the first byte is the most significant. -/
def be (bytes : List Byte) : Nat := bytes.foldl (fun v b => v * 256 + b.toNat) 0

/-- The field of `w` bytes at payload offset `o`, unsigned (R66). Every use stands behind `present`. -/
def field (payload : List Byte) (o w : Nat) : Nat := be ((payload.drop o).take w)

/-- A field zero-extended to a register of `n` bits (R66). -/
def fieldBits (n : Nat) (payload : List Byte) (o w : Nat) : BitVec n := BitVec.ofNat n (field payload o w)

/-- The presence test: `o + w <= n` (R130). -/
def present (payload : List Byte) (o w : Nat) : Bool := o + w ≤ payload.length

/-- Bits 7:4 of a byte (R45). -/
def highNibble (b : Byte) : BitVec 4 := b.extractLsb' 4 4

/-- Bits 3:0 of a byte (R45). -/
def lowNibble (b : Byte) : BitVec 4 := b.extractLsb' 0 4

/-- `Udeg(raw) = floor((10 raw + 9) / 18)` (R133). -/
def udeg (raw : Nat) : Nat := (10 * raw + 9) / 18

/-- A coordinate in millionths of a degree, 33 bits two's complement: `Udeg(raw)` or its negative (R132, R133). -/
def signedUdeg (positive : Bool) (raw : Word) : BitVec 33 :=
  BitVec.ofInt 33 (if positive then (udeg raw.toNat : Int) else -(udeg raw.toNat : Int))

end Sys2Proof.Machine
end

