-- ==== Sys2Proof/Machine/Ack.lean ====
section
/-! DEFINITION. The acknowledgement builder (44_ack R185) and the pseudo-instructions of 30_encoding R82. -/

namespace Sys2Proof.Machine

/-- `buildAck(s, p)` (R185): ten bytes, the CRC of bytes 2 to 5 high byte first. -/
def buildAck (serial : Half) (proto : Byte) : List Byte :=
  let c := crc16 [0x05, proto, hi8 serial, lo8 serial]
  [0x78, 0x78, 0x05, proto, hi8 serial, lo8 serial, hi8 c, lo8 c, 0x0D, 0x0A]

/-- `STD(p, payload, s)` (R82): the STD frame with the checksum that the validator accepts. -/
def stdPseudo (proto : Byte) (payload : List Byte) (serial : Half) : List Byte :=
  stdFrame proto payload serial (crc16 (stdCovered proto payload serial))

/-- `EXT(p, payload)` (R82). -/
def extPseudo (proto : Byte) (payload : List Byte) : List Byte := extFrame proto payload

/-- `ACK(s, p)` (R82). -/
def ackPseudo (serial : Half) (proto : Byte) : List Byte := buildAck serial proto

end Sys2Proof.Machine
end

