-- ==== Sys2Proof/Machine/Flags.lean ====
section
/-! DEFINITION. Events and the STATUS flags (10_state R23; 60_exceptions R215). -/

namespace Sys2Proof.Machine

/-- Every event the block can raise (R215). -/
inductive Event where
  | noise | garbage | badStop | overLen | runt | crcErr | short | badDate | ovf
  deriving DecidableEq, Repr

/-- The STATUS bit of an event (R23, R215). -/
def eventBit (e : Event) : Nat :=
  match e with
  | .noise => 0
  | .garbage => 1
  | .badStop => 2
  | .overLen => 3
  | .runt => 4
  | .crcErr => 5
  | .short => 6
  | .badDate => 7
  | .ovf => 8

/-- The LASTERR code of an event, for the six that have one (R215). -/
def eventCode (e : Event) : Option (BitVec 4) :=
  match e with
  | .noise => none
  | .garbage => some 1
  | .badStop => some 2
  | .overLen => some 3
  | .runt => some 4
  | .crcErr => some 5
  | .short => none
  | .badDate => none
  | .ovf => some 6

/-- The framing errors, which CNT_FRAMERR counts (R18, R216). -/
def eventIsFraming (e : Event) : Bool :=
  match e with
  | .garbage => true
  | .badStop => true
  | .overLen => true
  | .runt => true
  | .noise => false
  | .crcErr => false
  | .short => false
  | .badDate => false
  | .ovf => false

/-- `STATUS.EV_X <- 1` (R216). -/
def setFlag (e : Event) (status : BitVec 9) : BitVec 9 := status ||| (1#9 <<< eventBit e)

/-- Write-one-to-clear of bits 8:0 (R23, R196). -/
def clearFlags (status : BitVec 9) (value : Word) : BitVec 9 := status &&& ~~~(value.extractLsb' 0 9)

/-- A flag as it stands (R23). -/
def flagOf (e : Event) (status : BitVec 9) : Bool := status.getLsbD (eventBit e)

/-- The STATUS word: bit 31 HALTED, bits 30:9 zero, bits 8:0 the flags (R23, R195). -/
def statusWord (s : State) : Word := BitVec.ofBool s.halted ++ 0#22 ++ s.status

/-- The CTRL word: bit 0 CRC_ENFORCE, bit 1 ACK_EN, others zero (R22, R195). -/
def ctrlWord (s : State) : Word := 0#30 ++ BitVec.ofBool s.ackEn ++ BitVec.ofBool s.crcEnforce

/-- The QSTAT word: bit 0 REC_AVAIL, bit 1 ACK_AVAIL, others zero (R20, R195). -/
def qstatWord (s : State) : Word := 0#30 ++ BitVec.ofBool (!s.ackq.isEmpty) ++ BitVec.ofBool (!s.recq.isEmpty)

end Sys2Proof.Machine
end

