-- ==== Sys2Proof/Machine/Ops.lean ====
section
/-! DEFINITION. The named operations over the state: accumulator, events, queues, reset. -/

namespace Sys2Proof.Machine

/-! The accumulator (20_memory R40 to R42). It is held as the sequence R11 says it is; the byte at index `i` is element `i`
(DESIGN CHOICE, safe: log 5). -/

/-- The byte of ACC at an index, none outside `0 .. ACC_LEN - 1` (R40, R43). -/
def memByte (acc : List Byte) (i : Nat) : Option Byte := acc[i]?

/-- `MemRead(i, n)`, defined only when `i + n <= ACC_LEN` (R40). -/
def memRead (acc : List Byte) (i n : Nat) : Option (List Byte) :=
  if i + n ≤ acc.length then some ((acc.drop i).take n) else none

/-- ACC as (index, byte) pairs, indices strictly rising (log 5). -/
def memCells (acc : List Byte) : List Host.Cell := acc.zipIdx.map fun c => (c.2, c.1)

/-- The accumulator holds at most ACC_CAP bytes (R11). -/
def memWf (acc : List Byte) : Bool := acc.length ≤ cfg.accCap

/-- `MemWrite(ACC_LEN, 1, b)`: the append, the only write (R41). -/
def append (b : Byte) (s : State) : State := { s with acc := s.acc ++ [b] }

/-- `drop(n)` (R42): `n` bytes leave the head of ACC and HEAD advances by `n`. -/
def drop (n : Nat) (s : State) : State := { s with acc := s.acc.drop n, head := s.head + BitVec.ofNat 32 n }

/-- A drop that resynchronization makes: `drop(n)` and `CNT_DROPPED += n` (R93, R94, R97, R98, R100). -/
def discard (n : Nat) (s : State) : State :=
  { drop n s with cntDropped := s.cntDropped + BitVec.ofNat 32 n }

/-! Events, this block's exceptions (60_exceptions R215, R216). -/

/-- `event X(o)`, whole (R216): the flag; for an event with a code LASTERR and LASTOFF; the counter of its class. Control goes on with
the raising rule's next step (R221): nothing is saved but LASTERR and LASTOFF. -/
def raiseEvent (e : Event) (o : Word) (s : State) : State :=
  { s with
    status := setFlag e s.status
    lastErr := (eventCode e).getD s.lastErr
    lastOff := if (eventCode e).isSome then o else s.lastOff
    cntFramErr := if eventIsFraming e then s.cntFramErr + 1 else s.cntFramErr
    cntCrcErr := if e = .crcErr then s.cntCrcErr + 1 else s.cntCrcErr }

/-- What stands in for a return from an event (R222): the host clears the flags it writes 1 to (R23, R196). -/
def clearEvents (value : Word) (s : State) : State := { s with status := clearFlags s.status value }

/-- OVF (R90): the event and HALTED; the refused byte is not stored. -/
def overflow (s : State) : State :=
  { raiseEvent .ovf (s.head + BitVec.ofNat 32 s.acc.length) s with halted := true }

/-! Queues (R16, R17). -/

/-- `push(RECQ, r)`. -/
def pushRec (r : Record) (s : State) : State := { s with recq := s.recq ++ [r] }

/-- `push(ACKQ, f)`. -/
def pushAck (f : List Byte) (s : State) : State := { s with ackq := s.ackq ++ [f] }

/-- `pop(RECQ)`, nothing on an empty queue (R200). -/
def popRec (s : State) : State := { s with recq := s.recq.tail }

/-- `pop(ACKQ)`, nothing on an empty queue (R201). -/
def popAck (s : State) : State := { s with ackq := s.ackq.tail }

/-- The head of RECQ (R202). -/
def peekRec (s : State) : Option Record := s.recq.head?

/-- The head of ACKQ (R203). -/
def peekAck (s : State) : Option (List Byte) := s.ackq.head?

/-! Reset, flush, and the value returned to the host. -/

/-- The transition of HRESET and CMD.SRESET (R198, R240): every component of R10 takes its reset value. The host's pending operations
and the value it last read are the host's and stay (DESIGN CHOICE, safe: log 1, log 2). -/
def resetBlock (s : State) : State := { State.reset with inbox := s.inbox, result := s.result }

/-- The transition of CMD.FLUSH (R197). -/
def flush (s : State) : State := { s with acc := [], head := 0, halted := false, ackq := [] }

/-- The direct CRC port's register is set to its initial value (R199). -/
def crcRestart (s : State) : State := { s with crcReg := crcInit }

/-- One byte into the direct CRC port (R178). -/
def crcFeed (b : Byte) (s : State) : State := { s with crcReg := crcByte s.crcReg b }

/-- CRC_VALUE: the complemented register, zero-extended (R179). -/
def crcValueWord (s : State) : Word := (s.crcReg ^^^ 0xFFFF).setWidth 32

/-- A value returned to the host (log 2). -/
def answer (r : Result) (s : State) : State := { s with result := r }

end Sys2Proof.Machine
end

