-- ==== Sys2Proof/Machine/Common.lean ====
section
/-! DEFINITION. The decode step common to every frame (41_decode_common R110 to R121; 43_crc R174, R175; 44_ack R187). -/

namespace Sys2Proof.Machine

/-- The common fields that both formats compute alike (R112, R114, R115, R119, R120) on the all-zero image. -/
def commonFields (proto : Byte) (payload : List Byte) (seq offset : Word) : Record :=
  { seq := seq
    offset := offset
    proto := proto
    name := nameOf proto
    kind := kindOf proto
    ack := inAckSet proto
    payLen := BitVec.ofNat 16 payload.length
    print := payload.all printable
    text := payload.all printable && inTextSet proto }

/-- The common fields of an STD frame (R111 to R120); `CRC` is `crc16(F[2 .. T-4))` (R118, R174). -/
def stdRecord (proto : Byte) (payload : List Byte) (serial checksum : Half) (seq offset : Word) : Record :=
  { commonFields proto payload seq offset with
    raw := stdFrame proto payload serial checksum
    rawLen := BitVec.ofNat 17 (payload.length + 10)
    ext := false
    len := (stdLen payload).setWidth 16
    payOff := 4
    serial := serial
    checksum := checksum
    crc := crc16 (stdCovered proto payload serial)
    crcChk := true
    crcOk := crc16 (stdCovered proto payload serial) == checksum }

/-- The common fields of an EXT frame (R111 to R120): no serial number, no checksum, nothing checked. -/
def extRecord (proto : Byte) (payload : List Byte) (seq offset : Word) : Record :=
  { commonFields proto payload seq offset with
    raw := extFrame proto payload
    rawLen := BitVec.ofNat 17 (payload.length + 7)
    ext := true
    len := extLen payload
    payOff := 5 }

/-- The validator found a mismatch (R175). -/
def crcMismatch (r : Record) : Bool := r.crcChk && !r.crcOk

/-- The events that a finished record raises, SHORT then BADDATE (R110, R121, R131, R219). -/
def recordEvents (r : Record) (s : State) : State :=
  let s := if r.short then raiseEvent .short r.offset s else s
  if r.dt.vDtp && !r.dt.vDt then raiseEvent .badDate r.offset s else s

/-- The automatic acknowledgement (R187). -/
def autoAck (r : Record) (s : State) : State :=
  if r.ack && s.ackEn then pushAck (buildAck r.serial r.proto) s else s

/-- A record leaves the decoder: its events, the push on RECQ, then the acknowledgement (R110). -/
def deliver (r : Record) (s : State) : State := autoAck r (pushRec r (recordEvents r s))

/-- `Decode` from the common fields on (R110): the validator, the extractor, the delivery. -/
def decodeStep (extract : Record → Record) (common : Record) (s : State) : State :=
  if crcMismatch common then
    if s.crcEnforce then raiseEvent .crcErr common.offset s
    else deliver (extract common) (raiseEvent .crcErr common.offset s)
  else deliver (extract common) s

/-- The yield of a frame of `total` bytes (R101): it leaves ACC and is counted. On a state whose ACC does not begin with the frame the
same is done (DESIGN CHOICE, safe for runs: log 4). -/
def takeFrame (total : Nat) (s : State) : State := { drop total s with cntFrames := s.cntFrames + 1 }

/-- The yield and decode of an STD frame with code `proto` (R101, R110). `extract` is the extractor of the code (R68). -/
def yieldStd (proto : Byte) (extract : List Byte → Record → Record) (payload : List Byte) (serial checksum : Half)
    (s : State) : State :=
  decodeStep (extract payload) (stdRecord proto payload serial checksum s.cntFrames s.head) (takeFrame (payload.length + 10) s)

/-- The yield and decode of an EXT frame with code `proto` (R101, R110). -/
def yieldExt (proto : Byte) (extract : List Byte → Record → Record) (payload : List Byte) (s : State) : State :=
  decodeStep (extract payload) (extRecord proto payload s.cntFrames s.head) (takeFrame (payload.length + 7) s)

end Sys2Proof.Machine
end

