-- ==== Sys2Proof/Machine/GpsLbs.lean ====
section
/-! DEFINITION. The shared groups and the GPS/LBS path (42_extractors R131 to R136; 30_encoding R70), and the eight codes of the family (R141, R143 to R149). -/

namespace Sys2Proof.Machine

/-- The ranges of R131: month 1 to 12, day 1 to 31, hour to 23, minute and second to 59. -/
def dateInRange (mon day hour min sec : Byte) : Bool :=
  (1 ≤ mon.toNat && mon.toNat ≤ 12) && (1 ≤ day.toNat && day.toNat ≤ 31) && hour.toNat ≤ 23 && min.toNat ≤ 59 && sec.toNat ≤ 59

/-- `DateTime(o)` (R131); the caller has tested `o + 6 <= n`. -/
def dateTimeGroup (payload : List Byte) (o : Nat) : DateTimeRegs :=
  let mon := byteAt payload (o + 1)
  let day := byteAt payload (o + 2)
  let hour := byteAt payload (o + 3)
  let min := byteAt payload (o + 4)
  let sec := byteAt payload (o + 5)
  { vDtp := true
    vDt := dateInRange mon day hour min sec
    year := 2000 + (byteAt payload o).setWidth 12
    mon := mon
    day := day
    hour := hour
    min := min
    sec := sec }

/-- `GpsGroup(o)` (R132); the caller has tested `o + 12 <= n`. The places of NORTH, WEST, FIXVALID and RTBIT in the course and status
word are the spec's own choice from general knowledge of the family (R70; GK1; PRESUMED, unsafe: log 10). -/
def gpsGroup (payload : List Byte) (o : Nat) : GpsRegs :=
  let info := byteAt payload o
  let latRaw := fieldBits 32 payload (o + 1) 4
  let lonRaw := fieldBits 32 payload (o + 5) 4
  let csw := fieldBits 16 payload (o + 10) 2
  { vGps := true
    gpsLen := highNibble info
    sats := lowNibble info
    latRaw := latRaw
    lonRaw := lonRaw
    latUdeg := signedUdeg (csw.getLsbD 10) latRaw
    lonUdeg := signedUdeg (!csw.getLsbD 11) lonRaw
    speed := byteAt payload (o + 9)
    csw := csw
    course := csw.extractLsb' 0 10
    north := csw.getLsbD 10
    west := csw.getLsbD 11
    fixValid := csw.getLsbD 12
    rtBit := csw.getLsbD 13 }

/-- `LbsGroup(o)` (R134); the caller has tested `o + 8 <= n`. -/
def lbsGroup (payload : List Byte) (o : Nat) : LbsRegs :=
  { vLbs := true
    mcc := fieldBits 16 payload o 2
    mnc := byteAt payload (o + 2)
    lac := fieldBits 16 payload (o + 3) 2
    cellId := fieldBits 24 payload (o + 5) 3 }

/-- Where the tail begins: after the last group decoded (R135). -/
def gpsLbsTail (offs : GpsOffsets) (payload : List Byte) (b : Nat) : Nat :=
  if present payload b offs.fin then b + offs.fin
  else if present payload b offs.lbs then b + offs.lbs
  else if present payload b offs.gps then b + offs.gps
  else b

/-- `GpsLbs(b)` (R135) with an offset table in place of the constants 0, 6, 18, 26 (R136; DEDUCED, safe: log 7). -/
def gpsLbsPath (offs : GpsOffsets) (payload : List Byte) (b : Nat) (r : Record) : Record :=
  { r with
    dt := if present payload b offs.gps then dateTimeGroup payload (b + offs.dt) else r.dt
    gps := if present payload b offs.lbs then gpsGroup payload (b + offs.gps) else r.gps
    lbs := if present payload b offs.fin then lbsGroup payload (b + offs.lbs) else r.lbs
    tailOff := BitVec.ofNat 16 (gpsLbsTail offs payload b)
    tailLen := BitVec.ofNat 16 (payload.length - gpsLbsTail offs payload b)
    short := r.short || !present payload b offs.fin }

/-- The extractor of a code of the family: `GpsLbs(0)` with the code's offset table (R136, R141, R143 to R149). -/
def extractGpsLbs (proto : Byte) (payload : List Byte) (r : Record) : Record := gpsLbsPath (cfg.gpsOffsets proto) payload 0 r

/-- The yield of an STD GPS frame, code 0x02 (R141). -/
def yieldGps (payload : List Byte) (serial checksum : Half) (s : State) : State :=
  yieldStd 0x02 (extractGpsLbs 0x02) payload serial checksum s

/-- GPS as an STD frame (R141). -/
def execGps (payload : List Byte) (serial checksum : Half) (s : State) : Host.Outcome State Fault Refusal :=
  .next (yieldGps payload serial checksum s)

/-- The yield of an EXT GPS frame, code 0x02 (R141). -/
def yieldGpsX (payload : List Byte) (s : State) : State := yieldExt 0x02 (extractGpsLbs 0x02) payload s

/-- GPS as an EXT frame (R141). -/
def execGpsX (payload : List Byte) (s : State) : Host.Outcome State Fault Refusal :=
  .next (yieldGpsX payload s)

/-- The yield of an STD GPSLBS.10 frame, code 0x10 (R143). -/
def yieldGpsLbs10 (payload : List Byte) (serial checksum : Half) (s : State) : State :=
  yieldStd 0x10 (extractGpsLbs 0x10) payload serial checksum s

/-- GPSLBS.10 as an STD frame (R143). -/
def execGpsLbs10 (payload : List Byte) (serial checksum : Half) (s : State) : Host.Outcome State Fault Refusal :=
  .next (yieldGpsLbs10 payload serial checksum s)

/-- The yield of an EXT GPSLBS.10 frame, code 0x10 (R143). -/
def yieldGpsLbs10X (payload : List Byte) (s : State) : State := yieldExt 0x10 (extractGpsLbs 0x10) payload s

/-- GPSLBS.10 as an EXT frame (R143). -/
def execGpsLbs10X (payload : List Byte) (s : State) : Host.Outcome State Fault Refusal :=
  .next (yieldGpsLbs10X payload s)

/-- The yield of an STD GPSLBS.11 frame, code 0x11 (R144). -/
def yieldGpsLbs11 (payload : List Byte) (serial checksum : Half) (s : State) : State :=
  yieldStd 0x11 (extractGpsLbs 0x11) payload serial checksum s

/-- GPSLBS.11 as an STD frame (R144). -/
def execGpsLbs11 (payload : List Byte) (serial checksum : Half) (s : State) : Host.Outcome State Fault Refusal :=
  .next (yieldGpsLbs11 payload serial checksum s)

/-- The yield of an EXT GPSLBS.11 frame, code 0x11 (R144). -/
def yieldGpsLbs11X (payload : List Byte) (s : State) : State := yieldExt 0x11 (extractGpsLbs 0x11) payload s

/-- GPSLBS.11 as an EXT frame (R144). -/
def execGpsLbs11X (payload : List Byte) (s : State) : Host.Outcome State Fault Refusal :=
  .next (yieldGpsLbs11X payload s)

/-- The yield of an STD GPSLBS.12 frame, code 0x12 (R145). -/
def yieldGpsLbs12 (payload : List Byte) (serial checksum : Half) (s : State) : State :=
  yieldStd 0x12 (extractGpsLbs 0x12) payload serial checksum s

/-- GPSLBS.12 as an STD frame (R145). -/
def execGpsLbs12 (payload : List Byte) (serial checksum : Half) (s : State) : Host.Outcome State Fault Refusal :=
  .next (yieldGpsLbs12 payload serial checksum s)

/-- The yield of an EXT GPSLBS.12 frame, code 0x12 (R145). -/
def yieldGpsLbs12X (payload : List Byte) (s : State) : State := yieldExt 0x12 (extractGpsLbs 0x12) payload s

/-- GPSLBS.12 as an EXT frame (R145). -/
def execGpsLbs12X (payload : List Byte) (s : State) : Host.Outcome State Fault Refusal :=
  .next (yieldGpsLbs12X payload s)

/-- The yield of an STD GPSLBS.22 frame, code 0x22 (R146). -/
def yieldGpsLbs22 (payload : List Byte) (serial checksum : Half) (s : State) : State :=
  yieldStd 0x22 (extractGpsLbs 0x22) payload serial checksum s

/-- GPSLBS.22 as an STD frame (R146). -/
def execGpsLbs22 (payload : List Byte) (serial checksum : Half) (s : State) : Host.Outcome State Fault Refusal :=
  .next (yieldGpsLbs22 payload serial checksum s)

/-- The yield of an EXT GPSLBS.22 frame, code 0x22 (R146). -/
def yieldGpsLbs22X (payload : List Byte) (s : State) : State := yieldExt 0x22 (extractGpsLbs 0x22) payload s

/-- GPSLBS.22 as an EXT frame (R146). -/
def execGpsLbs22X (payload : List Byte) (s : State) : Host.Outcome State Fault Refusal :=
  .next (yieldGpsLbs22X payload s)

/-- The yield of an STD GPSLBS.A0 frame, code 0xA0 (R147). -/
def yieldGpsLbsA0 (payload : List Byte) (serial checksum : Half) (s : State) : State :=
  yieldStd 0xA0 (extractGpsLbs 0xA0) payload serial checksum s

/-- GPSLBS.A0 as an STD frame (R147). -/
def execGpsLbsA0 (payload : List Byte) (serial checksum : Half) (s : State) : Host.Outcome State Fault Refusal :=
  .next (yieldGpsLbsA0 payload serial checksum s)

/-- The yield of an EXT GPSLBS.A0 frame, code 0xA0 (R147). -/
def yieldGpsLbsA0X (payload : List Byte) (s : State) : State := yieldExt 0xA0 (extractGpsLbs 0xA0) payload s

/-- GPSLBS.A0 as an EXT frame (R147). -/
def execGpsLbsA0X (payload : List Byte) (s : State) : Host.Outcome State Fault Refusal :=
  .next (yieldGpsLbsA0X payload s)

/-- The yield of an STD GPSLBS.EXT frame, code 0x19 (R148). -/
def yieldGpsLbsExt (payload : List Byte) (serial checksum : Half) (s : State) : State :=
  yieldStd 0x19 (extractGpsLbs 0x19) payload serial checksum s

/-- GPSLBS.EXT as an STD frame (R148). -/
def execGpsLbsExt (payload : List Byte) (serial checksum : Half) (s : State) : Host.Outcome State Fault Refusal :=
  .next (yieldGpsLbsExt payload serial checksum s)

/-- The yield of an EXT GPSLBS.EXT frame, code 0x19 (R148). -/
def yieldGpsLbsExtX (payload : List Byte) (s : State) : State := yieldExt 0x19 (extractGpsLbs 0x19) payload s

/-- GPSLBS.EXT as an EXT frame (R148). -/
def execGpsLbsExtX (payload : List Byte) (s : State) : Host.Outcome State Fault Refusal :=
  .next (yieldGpsLbsExtX payload s)

/-- The yield of an STD GPSLBS.DATA frame, code 0x1A (R149). -/
def yieldGpsLbsData (payload : List Byte) (serial checksum : Half) (s : State) : State :=
  yieldStd 0x1A (extractGpsLbs 0x1A) payload serial checksum s

/-- GPSLBS.DATA as an STD frame (R149). -/
def execGpsLbsData (payload : List Byte) (serial checksum : Half) (s : State) : Host.Outcome State Fault Refusal :=
  .next (yieldGpsLbsData payload serial checksum s)

/-- The yield of an EXT GPSLBS.DATA frame, code 0x1A (R149). -/
def yieldGpsLbsDataX (payload : List Byte) (s : State) : State := yieldExt 0x1A (extractGpsLbs 0x1A) payload s

/-- GPSLBS.DATA as an EXT frame (R149). -/
def execGpsLbsDataX (payload : List Byte) (s : State) : Host.Outcome State Fault Refusal :=
  .next (yieldGpsLbsDataX payload s)

end Sys2Proof.Machine
end

