-- ==== Sys2Proof/Machine/Alarm.lean ====
section
/-! DEFINITION. ALARM, code 0x16 (42_extractors R152; 30_encoding R72). -/

namespace Sys2Proof.Machine

/-- The alarm byte and its eight flags (R30, R152). -/
def alarmFlags (payload : List Byte) : AlarmRegs :=
  let a := if present payload 0 1 then byteAt payload 0 else 0
  { vAl := present payload 0 1
    alByte := a
    emergency := a.getLsbD 0
    overspeed := a.getLsbD 1
    lowPower := a.getLsbD 2
    shock := a.getLsbD 3
    geoIn := a.getLsbD 4
    geoOut := a.getLsbD 5
    idle := a.getLsbD 6
    distance := a.getLsbD 7 }

/-- The ALARM extractor (R152): the alarm byte, then `GpsLbs(1)`. -/
def extractAlarm (payload : List Byte) (r : Record) : Record :=
  gpsLbsPath (cfg.gpsOffsets 0x16) payload 1 { r with al := alarmFlags payload }

/-- The yield of an STD ALARM frame, code 0x16 (R152). -/
def yieldAlarm (payload : List Byte) (serial checksum : Half) (s : State) : State :=
  yieldStd 0x16 extractAlarm payload serial checksum s

/-- ALARM as an STD frame (R152). -/
def execAlarm (payload : List Byte) (serial checksum : Half) (s : State) : Host.Outcome State Fault Refusal :=
  .next (yieldAlarm payload serial checksum s)

/-- The yield of an EXT ALARM frame, code 0x16 (R152). -/
def yieldAlarmX (payload : List Byte) (s : State) : State := yieldExt 0x16 extractAlarm payload s

/-- ALARM as an EXT frame (R152). -/
def execAlarmX (payload : List Byte) (s : State) : Host.Outcome State Fault Refusal :=
  .next (yieldAlarmX payload s)

end Sys2Proof.Machine
end

