-- ==== Sys2Proof/Machine/Iccid.lean ====
section
/-! DEFINITION. ICCID, code 0x69 (42_extractors R156; 30_encoding R74). -/

namespace Sys2Proof.Machine

/-- The digits of packed BCD bytes, low nibble of each byte first (R45, R156). -/
def bcdDigits (bytes : List Byte) : List (BitVec 4) := bytes.flatMap fun b => [lowNibble b, highNibble b]

/-- The ICCID extractor (R156). -/
def extractIccid (payload : List Byte) (r : Record) : Record :=
  { r with
    short := !present payload 0 10
    iccid :=
      if present payload 0 10 then
        { vIccid := true
          dig := bcdDigits (payload.take 10)
          iccidDec := (bcdDigits (payload.take 10)).all fun d => d.toNat ≤ 9 }
      else r.iccid }

/-- The yield of an STD ICCID frame, code 0x69 (R156). -/
def yieldIccid (payload : List Byte) (serial checksum : Half) (s : State) : State :=
  yieldStd 0x69 extractIccid payload serial checksum s

/-- ICCID as an STD frame (R156). -/
def execIccid (payload : List Byte) (serial checksum : Half) (s : State) : Host.Outcome State Fault Refusal :=
  .next (yieldIccid payload serial checksum s)

/-- The yield of an EXT ICCID frame, code 0x69 (R156). -/
def yieldIccidX (payload : List Byte) (s : State) : State := yieldExt 0x69 extractIccid payload s

/-- ICCID as an EXT frame (R156). -/
def execIccidX (payload : List Byte) (s : State) : Host.Outcome State Fault Refusal :=
  .next (yieldIccidX payload s)

end Sys2Proof.Machine
end

