-- ==== Sys2Proof/Machine/Login.lean ====
section
/-! DEFINITION. LOGIN, code 0x01 (42_extractors R140; 30_encoding R69). -/

namespace Sys2Proof.Machine

/-- The LOGIN extractor (R140). -/
def extractLogin (payload : List Byte) (r : Record) : Record :=
  { r with
    short := !present payload 0 8
    login :=
      { vTid := present payload 0 8
        tid := if present payload 0 8 then fieldBits 64 payload 0 8 else 0
        vDevType := present payload 8 2
        devType := if present payload 8 2 then fieldBits 16 payload 8 2 else 0
        vTz := present payload 10 2
        tz := if present payload 10 2 then fieldBits 16 payload 10 2 else 0 } }

/-- The yield of an STD LOGIN frame, code 0x01 (R140). -/
def yieldLogin (payload : List Byte) (serial checksum : Half) (s : State) : State :=
  yieldStd 0x01 extractLogin payload serial checksum s

/-- LOGIN as an STD frame (R140). -/
def execLogin (payload : List Byte) (serial checksum : Half) (s : State) : Host.Outcome State Fault Refusal :=
  .next (yieldLogin payload serial checksum s)

/-- The yield of an EXT LOGIN frame, code 0x01 (R140). -/
def yieldLoginX (payload : List Byte) (s : State) : State := yieldExt 0x01 extractLogin payload s

/-- LOGIN as an EXT frame (R140). -/
def execLoginX (payload : List Byte) (s : State) : Host.Outcome State Fault Refusal :=
  .next (yieldLoginX payload s)

end Sys2Proof.Machine
end

