-- ==== Sys2Proof/Machine/Opaque.lean ====
section
/-! DEFINITION. The codes decoded as opaque payloads (42_extractors R142, R158 to R163): no fields beyond the common ones. -/

namespace Sys2Proof.Machine

/-- The extractor of kind OPAQUE writes nothing (R142, R158 to R163). -/
def extractOpaque (_payload : List Byte) (r : Record) : Record := r

/-- The yield of an STD HEARTBEAT frame, code 0x03 (R142). -/
def yieldHeartbeat (payload : List Byte) (serial checksum : Half) (s : State) : State :=
  yieldStd 0x03 extractOpaque payload serial checksum s

/-- HEARTBEAT as an STD frame (R142). -/
def execHeartbeat (payload : List Byte) (serial checksum : Half) (s : State) : Host.Outcome State Fault Refusal :=
  .next (yieldHeartbeat payload serial checksum s)

/-- The yield of an EXT HEARTBEAT frame, code 0x03 (R142). -/
def yieldHeartbeatX (payload : List Byte) (s : State) : State := yieldExt 0x03 extractOpaque payload s

/-- HEARTBEAT as an EXT frame (R142). -/
def execHeartbeatX (payload : List Byte) (s : State) : Host.Outcome State Fault Refusal :=
  .next (yieldHeartbeatX payload s)

/-- The yield of an STD LOCREP frame, code 0x70 (R158). -/
def yieldLocRep (payload : List Byte) (serial checksum : Half) (s : State) : State :=
  yieldStd 0x70 extractOpaque payload serial checksum s

/-- LOCREP as an STD frame (R158). -/
def execLocRep (payload : List Byte) (serial checksum : Half) (s : State) : Host.Outcome State Fault Refusal :=
  .next (yieldLocRep payload serial checksum s)

/-- The yield of an EXT LOCREP frame, code 0x70 (R158). -/
def yieldLocRepX (payload : List Byte) (s : State) : State := yieldExt 0x70 extractOpaque payload s

/-- LOCREP as an EXT frame (R158). -/
def execLocRepX (payload : List Byte) (s : State) : Host.Outcome State Fault Refusal :=
  .next (yieldLocRepX payload s)

/-- The yield of an STD STATCMD frame, code 0x8A (R159). -/
def yieldStatCmd (payload : List Byte) (serial checksum : Half) (s : State) : State :=
  yieldStd 0x8A extractOpaque payload serial checksum s

/-- STATCMD as an STD frame (R159). -/
def execStatCmd (payload : List Byte) (serial checksum : Half) (s : State) : Host.Outcome State Fault Refusal :=
  .next (yieldStatCmd payload serial checksum s)

/-- The yield of an EXT STATCMD frame, code 0x8A (R159). -/
def yieldStatCmdX (payload : List Byte) (s : State) : State := yieldExt 0x8A extractOpaque payload s

/-- STATCMD as an EXT frame (R159). -/
def execStatCmdX (payload : List Byte) (s : State) : Host.Outcome State Fault Refusal :=
  .next (yieldStatCmdX payload s)

/-- The yield of an STD INFOTX frame, code 0x94 (R160). -/
def yieldInfoTx (payload : List Byte) (serial checksum : Half) (s : State) : State :=
  yieldStd 0x94 extractOpaque payload serial checksum s

/-- INFOTX as an STD frame (R160). -/
def execInfoTx (payload : List Byte) (serial checksum : Half) (s : State) : Host.Outcome State Fault Refusal :=
  .next (yieldInfoTx payload serial checksum s)

/-- The yield of an EXT INFOTX frame, code 0x94 (R160). -/
def yieldInfoTxX (payload : List Byte) (s : State) : State := yieldExt 0x94 extractOpaque payload s

/-- INFOTX as an EXT frame (R160). -/
def execInfoTxX (payload : List Byte) (s : State) : Host.Outcome State Fault Refusal :=
  .next (yieldInfoTxX payload s)

/-- The yield of an STD EXTCMD.98 frame, code 0x98 (R161). -/
def yieldExtCmd98 (payload : List Byte) (serial checksum : Half) (s : State) : State :=
  yieldStd 0x98 extractOpaque payload serial checksum s

/-- EXTCMD.98 as an STD frame (R161). -/
def execExtCmd98 (payload : List Byte) (serial checksum : Half) (s : State) : Host.Outcome State Fault Refusal :=
  .next (yieldExtCmd98 payload serial checksum s)

/-- The yield of an EXT EXTCMD.98 frame, code 0x98 (R161). -/
def yieldExtCmd98X (payload : List Byte) (s : State) : State := yieldExt 0x98 extractOpaque payload s

/-- EXTCMD.98 as an EXT frame (R161). -/
def execExtCmd98X (payload : List Byte) (s : State) : Host.Outcome State Fault Refusal :=
  .next (yieldExtCmd98X payload s)

/-- The yield of an STD EXTCMD.99 frame, code 0x99 (R162). -/
def yieldExtCmd99 (payload : List Byte) (serial checksum : Half) (s : State) : State :=
  yieldStd 0x99 extractOpaque payload serial checksum s

/-- EXTCMD.99 as an STD frame (R162). -/
def execExtCmd99 (payload : List Byte) (serial checksum : Half) (s : State) : Host.Outcome State Fault Refusal :=
  .next (yieldExtCmd99 payload serial checksum s)

/-- The yield of an EXT EXTCMD.99 frame, code 0x99 (R162). -/
def yieldExtCmd99X (payload : List Byte) (s : State) : State := yieldExt 0x99 extractOpaque payload s

/-- EXTCMD.99 as an EXT frame (R162). -/
def execExtCmd99X (payload : List Byte) (s : State) : Host.Outcome State Fault Refusal :=
  .next (yieldExtCmd99X payload s)

/-- The yield of an STD frame whose code has no row of its own (R163). -/
def yieldUnknown (proto : Byte) (payload : List Byte) (serial checksum : Half) (s : State) : State :=
  yieldStd proto extractOpaque payload serial checksum s

/-- UNKNOWN as an STD frame (R163). -/
def execUnknown (proto : Byte) (payload : List Byte) (serial checksum : Half) (s : State) : Host.Outcome State Fault Refusal :=
  .next (yieldUnknown proto payload serial checksum s)

/-- The yield of an EXT frame whose code has no row of its own (R163). -/
def yieldUnknownX (proto : Byte) (payload : List Byte) (s : State) : State := yieldExt proto extractOpaque payload s

/-- UNKNOWN as an EXT frame (R163). -/
def execUnknownX (proto : Byte) (payload : List Byte) (s : State) : Host.Outcome State Fault Refusal :=
  .next (yieldUnknownX proto payload s)

end Sys2Proof.Machine
end

