-- ==== Sys2Proof/Machine/Status.lean ====
section
/-! DEFINITION. STATUS, code 0x13 (42_extractors R150; 30_encoding R71). -/

namespace Sys2Proof.Machine

/-- The STATUS extractor (R150). -/
def extractStatus (payload : List Byte) (r : Record) : Record :=
  let b := if present payload 0 1 then byteAt payload 0 else 0
  { r with
    short := !present payload 0 4
    st :=
      { vSt := present payload 0 1
        stByte := b
        oilElec := b.getLsbD 0
        gpsTracking := b.getLsbD 1
        charging := b.getLsbD 2
        ignition := b.getLsbD 3
        defence := b.getLsbD 4
        flag5 := b.getLsbD 5
        sigLvl := b.extractLsb' 6 2
        vVolt := present payload 1 2
        volt := if present payload 1 2 then fieldBits 16 payload 1 2 else 0
        vSig := present payload 3 1
        sig := if present payload 3 1 then byteAt payload 3 else 0
        vLang := present payload 4 2
        lang := if present payload 4 2 then fieldBits 16 payload 4 2 else 0 } }

/-- The yield of an STD STATUS frame, code 0x13 (R150). -/
def yieldStatus (payload : List Byte) (serial checksum : Half) (s : State) : State :=
  yieldStd 0x13 extractStatus payload serial checksum s

/-- STATUS as an STD frame (R150). -/
def execStatus (payload : List Byte) (serial checksum : Half) (s : State) : Host.Outcome State Fault Refusal :=
  .next (yieldStatus payload serial checksum s)

/-- The yield of an EXT STATUS frame, code 0x13 (R150). -/
def yieldStatusX (payload : List Byte) (s : State) : State := yieldExt 0x13 extractStatus payload s

/-- STATUS as an EXT frame (R150). -/
def execStatusX (payload : List Byte) (s : State) : Host.Outcome State Fault Refusal :=
  .next (yieldStatusX payload s)

end Sys2Proof.Machine
end

