-- ==== Sys2Proof/Machine/Wifi.lean ====
section
/-! DEFINITION. WIFI, code 0x30 (42_extractors R154; 30_encoding R73). -/

namespace Sys2Proof.Machine

/-- `WIFI_N = min(N, floor((n - 7) / 7))` (R154). -/
def wifiCount (payload : List Byte) : Nat := min (byteAt payload 6).toNat ((payload.length - 7) / 7)

/-- Access point `i`: MAC at `7 + 7i`, signal strength at `13 + 7i` (R73, R154). -/
def accessPoint (payload : List Byte) (i : Nat) : ApEntry :=
  { mac := fieldBits 48 payload (7 + 7 * i) 6, rssi := byteAt payload (13 + 7 * i) }

/-- The WIFI extractor (R154). -/
def extractWifi (payload : List Byte) (r : Record) : Record :=
  { r with
    dt := if present payload 0 6 then dateTimeGroup payload 0 else r.dt
    wifi :=
      if present payload 0 7 then
        { vWn := true
          nDecl := byteAt payload 6
          n := BitVec.ofNat 8 (wifiCount payload)
          ap := (List.range (wifiCount payload)).map (accessPoint payload) }
      else r.wifi
    short := !present payload 0 7 || wifiCount payload < (byteAt payload 6).toNat }

/-- The yield of an STD WIFI frame, code 0x30 (R154). -/
def yieldWifi (payload : List Byte) (serial checksum : Half) (s : State) : State :=
  yieldStd 0x30 extractWifi payload serial checksum s

/-- WIFI as an STD frame (R154). -/
def execWifi (payload : List Byte) (serial checksum : Half) (s : State) : Host.Outcome State Fault Refusal :=
  .next (yieldWifi payload serial checksum s)

/-- The yield of an EXT WIFI frame, code 0x30 (R154). -/
def yieldWifiX (payload : List Byte) (s : State) : State := yieldExt 0x30 extractWifi payload s

/-- WIFI as an EXT frame (R154). -/
def execWifiX (payload : List Byte) (s : State) : Host.Outcome State Fault Refusal :=
  .next (yieldWifiX payload s)

end Sys2Proof.Machine
end

