-- ==== Sys2Proof/Machine/Detector.lean ====
section
/-! DEFINITION. The frame-boundary detector (40_framing R91 to R103). -/

namespace Sys2Proof.Machine

/-- `MarkerIndex(ACC)` (R93): the least index of two equal bytes, both 0x78 or both 0x79. -/
def markerIndex : List Byte → Option Nat
  | b0 :: b1 :: rest =>
    if b0 = b1 ∧ (b0 = 0x78 ∨ b0 = 0x79) then some 0 else (markerIndex (b1 :: rest)).map (· + 1)
  | _ => none

/-- The frame instruction at the head of ACC is yielded and decoded (R101, R110). Only a frame can be decoded from ACC; the other
instructions are the host's and have no such effect. -/
def runFrame (i : Instr) (s : State) : State :=
  match i with
  | .login payload serial checksum => yieldLogin payload serial checksum s
  | .gps payload serial checksum => yieldGps payload serial checksum s
  | .heartbeat payload serial checksum => yieldHeartbeat payload serial checksum s
  | .gpsLbs10 payload serial checksum => yieldGpsLbs10 payload serial checksum s
  | .gpsLbs11 payload serial checksum => yieldGpsLbs11 payload serial checksum s
  | .gpsLbs12 payload serial checksum => yieldGpsLbs12 payload serial checksum s
  | .gpsLbs22 payload serial checksum => yieldGpsLbs22 payload serial checksum s
  | .gpsLbsA0 payload serial checksum => yieldGpsLbsA0 payload serial checksum s
  | .status payload serial checksum => yieldStatus payload serial checksum s
  | .alarm payload serial checksum => yieldAlarm payload serial checksum s
  | .gpsLbsExt payload serial checksum => yieldGpsLbsExt payload serial checksum s
  | .gpsLbsData payload serial checksum => yieldGpsLbsData payload serial checksum s
  | .wifi payload serial checksum => yieldWifi payload serial checksum s
  | .iccid payload serial checksum => yieldIccid payload serial checksum s
  | .locRep payload serial checksum => yieldLocRep payload serial checksum s
  | .statCmd payload serial checksum => yieldStatCmd payload serial checksum s
  | .infoTx payload serial checksum => yieldInfoTx payload serial checksum s
  | .extCmd98 payload serial checksum => yieldExtCmd98 payload serial checksum s
  | .extCmd99 payload serial checksum => yieldExtCmd99 payload serial checksum s
  | .loginX payload => yieldLoginX payload s
  | .gpsX payload => yieldGpsX payload s
  | .heartbeatX payload => yieldHeartbeatX payload s
  | .gpsLbs10X payload => yieldGpsLbs10X payload s
  | .gpsLbs11X payload => yieldGpsLbs11X payload s
  | .gpsLbs12X payload => yieldGpsLbs12X payload s
  | .gpsLbs22X payload => yieldGpsLbs22X payload s
  | .gpsLbsA0X payload => yieldGpsLbsA0X payload s
  | .statusX payload => yieldStatusX payload s
  | .alarmX payload => yieldAlarmX payload s
  | .gpsLbsExtX payload => yieldGpsLbsExtX payload s
  | .gpsLbsDataX payload => yieldGpsLbsDataX payload s
  | .wifiX payload => yieldWifiX payload s
  | .iccidX payload => yieldIccidX payload s
  | .locRepX payload => yieldLocRepX payload s
  | .statCmdX payload => yieldStatCmdX payload s
  | .infoTxX payload => yieldInfoTxX payload s
  | .extCmd98X payload => yieldExtCmd98X payload s
  | .extCmd99X payload => yieldExtCmd99X payload s
  | .unknown proto payload serial checksum => yieldUnknown proto payload serial checksum s
  | .unknownX proto payload => yieldUnknownX proto payload s
  | .ack _ _ _ | .rx _ _ | .csrRead _ | .csrWrite _ _ | .cmdFlush | .cmdSreset | .cmdCrcInit | .cmdPopRec | .cmdPopAck
  | .crcData _ | .crcValue | .ackReq _ _ | .recPeek | .ackPeek | .hreset => s

/-- What one iteration of the loop ends with (R102). -/
inductive Pass where
  /-- The loop stops. -/
  | stop (s : State)
  /-- The next iteration follows. -/
  | again (s : State)
  deriving DecidableEq, Repr

/-- Resynchronization (R94): with `k > 0` bytes ahead of the marker, NOISE and the drop; with `k = 0` nothing. -/
def resync (k : Nat) (s : State) : State := if k = 0 then s else discard k (raiseEvent .noise s.head s)

/-- No marker anywhere (R93): GARBAGE, and the whole of ACC is dropped. -/
def dropGarbage (s : State) : State := discard s.acc.length (raiseEvent .garbage s.head s)

/-- A failed candidate (R97, R98, R100): its event at HEAD, then one byte is dropped. -/
def failCandidate (e : Event) (s : State) : State := discard 1 (raiseEvent e s.head s)

/-- The candidate at the head of ACC (R95 to R101). The last three outcomes cannot occur here (DEDUCED, safe: log 13). -/
def candidate (s : State) : Pass :=
  match decodeFrame s.acc with
  | .ok (i, _) => .again (runFrame i s)
  | .error .overLength => .again (failCandidate .overLen s)
  | .error .runt => .again (failCandidate .runt s)
  | .error .badStop => .again (failCandidate .badStop s)
  | .error .needLength | .error .needBody => .stop s
  | .error .noMarker | .error .trailing | .error .notAckFormat => .stop s

/-- One iteration of the loop (R91): the guard (R92), the scan (R93), resynchronization (R94), the candidate. -/
def iteration (s : State) : Pass :=
  if s.acc.length < 5 then .stop s
  else
    match markerIndex s.acc with
    | none => .stop (dropGarbage s)
    | some k => candidate (resync k s)

/-- At most `n` iterations. -/
def drainLoop : Nat → State → State
  | 0, s => s
  | n + 1, s =>
    match iteration s with
    | .stop t => t
    | .again t => drainLoop n t

/-- `Drain()` (R91). It ends within `ACC_LEN + 1` iterations (R102, R255). -/
def drain (s : State) : State := drainLoop (s.acc.length + 1) s

end Sys2Proof.Machine
end

