-- ==== Sys2Proof/Machine/HostOps.lean ====
section
/-! DEFINITION. The host operations (40_framing R90; 43_crc R178, R179; 44_ack R185, R188; 45_host_ops R195 to R204; 70_reset R240). -/

namespace Sys2Proof.Machine

/-- `RX(b, last)` (R90). -/
def rx (b : Byte) (last : Bool) (s : State) : State :=
  if s.halted then s
  else if s.acc.length = cfg.accCap then overflow s
  else if last then drain (append b s)
  else append b s

/-- `ACK.REQ` (R188). -/
def ackRequest (proto : Byte) (serial : Half) (s : State) : State := pushAck (buildAck serial proto) s

/-- What `CSR_READ(a)` returns (R195). -/
def csrValue (a : Byte) (s : State) : Word :=
  match a with
  | 0x00#8 => cfg.idValue
  | 0x04#8 => ctrlWord s
  | 0x08#8 => statusWord s
  | 0x0C#8 => (BitVec.ofNat 17 s.acc.length).setWidth 32
  | 0x10#8 => s.head
  | 0x14#8 => s.cntFrames
  | 0x18#8 => s.cntDropped
  | 0x1C#8 => s.cntFramErr
  | 0x20#8 => s.cntCrcErr
  | 0x24#8 => qstatWord s
  | 0x30#8 => crcValueWord s
  | 0x38#8 => s.lastErr.setWidth 32
  | 0x3C#8 => s.lastOff
  | _ => 0

/-- A write to CMD (R24, R196 to R201): values 1 to 5, with bits 31:8 zero; any other value does nothing (R204). -/
def command (v : Word) (s : State) : State :=
  match v with
  | 1#32 => flush s
  | 2#32 => resetBlock s
  | 3#32 => crcRestart s
  | 4#32 => popRec s
  | 5#32 => popAck s
  | _ => s

/-- `CSR_WRITE(a, v)` (R196); read-only registers and offsets that are not in the map are left alone (R204). -/
def csrStore (a : Byte) (v : Word) (s : State) : State :=
  match a with
  | 0x04#8 => { s with crcEnforce := v.getLsbD 0, ackEn := v.getLsbD 1 }
  | 0x08#8 => clearEvents v s
  | 0x28#8 => command v s
  | 0x2C#8 => crcFeed (v.extractLsb' 0 8) s
  | 0x34#8 => ackRequest (v.extractLsb' 16 8) (v.extractLsb' 0 16) s
  | _ => s

/-- ACK: the builder evaluated (R185). It is pure: the block's state stays, the ten bytes are the value returned. `crc` is what the
frame carries in its CRC field, which the builder computes anew (log 3). -/
def execAck (proto : Byte) (serial _crc : Half) (s : State) : Host.Outcome State Fault Refusal :=
  .next (answer (.built (buildAck serial proto)) s)

/-- RX (R90). -/
def execRx (b : Byte) (last : Bool) (s : State) : Host.Outcome State Fault Refusal := .next (rx b last s)

/-- CSR_READ (R195): no state changes, the word is returned. -/
def execCsrRead (a : Byte) (s : State) : Host.Outcome State Fault Refusal := .next (answer (.word (csrValue a s)) s)

/-- CSR_WRITE (R196). -/
def execCsrWrite (a : Byte) (v : Word) (s : State) : Host.Outcome State Fault Refusal := .next (csrStore a v s)

/-- CMD.FLUSH (R197). -/
def execCmdFlush (s : State) : Host.Outcome State Fault Refusal := .next (flush s)

/-- CMD.SRESET (R198). -/
def execCmdSreset (s : State) : Host.Outcome State Fault Refusal := .next (resetBlock s)

/-- CMD.CRC_INIT (R199). -/
def execCmdCrcInit (s : State) : Host.Outcome State Fault Refusal := .next (crcRestart s)

/-- CMD.POP_REC (R200). -/
def execCmdPopRec (s : State) : Host.Outcome State Fault Refusal := .next (popRec s)

/-- CMD.POP_ACK (R201). -/
def execCmdPopAck (s : State) : Host.Outcome State Fault Refusal := .next (popAck s)

/-- CRC.DATA (R178). -/
def execCrcData (b : Byte) (s : State) : Host.Outcome State Fault Refusal := .next (crcFeed b s)

/-- CRC.VALUE (R179). -/
def execCrcValue (s : State) : Host.Outcome State Fault Refusal := .next (answer (.word (crcValueWord s)) s)

/-- ACK.REQ (R188). -/
def execAckReq (proto : Byte) (serial : Half) (s : State) : Host.Outcome State Fault Refusal := .next (ackRequest proto serial s)

/-- REC.PEEK (R202). -/
def execRecPeek (s : State) : Host.Outcome State Fault Refusal := .next (answer (.record (peekRec s)) s)

/-- ACK.PEEK (R203). -/
def execAckPeek (s : State) : Host.Outcome State Fault Refusal := .next (answer (.ackFrame (peekAck s)) s)

/-- HRESET (R240). -/
def execHreset (s : State) : Host.Outcome State Fault Refusal := .next (resetBlock s)

/-! Streams of beats (R90, R104; 30_encoding R81). -/

/-- The beats of one chunk: the last byte with `last = 1`, all others with `last = 0` (R90). -/
def chunkWords : List Byte → List PortWord
  | [] => []
  | [b] => [.rx (1#1 ++ b)]
  | b :: b' :: rest => .rx (0#1 ++ b) :: chunkWords (b' :: rest)

/-- `feed(bytes)` for one chunk as RX beats (R90); the empty chunk has no beat (R104). -/
def feed : List Byte → State → State
  | [], s => s
  | [b], s => rx b true s
  | b :: b' :: rest, s => feed (b' :: rest) (rx b false s)

/-- The chunks of a stream, one after another. -/
def feedChunks (chunks : List (List Byte)) (s : State) : State := chunks.foldl (fun s c => feed c s) s

end Sys2Proof.Machine
end

