-- ==== Sys2Proof/Machine/Dispatch.lean ====
section
/-! DEFINITION. The dispatch of an instruction to its meaning: one arm per row of spec/opcode_table.json. -/

namespace Sys2Proof.Machine

def exec (i : Instr) (s : State) : Host.Outcome State Fault Refusal :=
  match i with
  | .login payload serial checksum => Sys2Proof.Machine.execLogin payload serial checksum s
  | .gps payload serial checksum => Sys2Proof.Machine.execGps payload serial checksum s
  | .heartbeat payload serial checksum => Sys2Proof.Machine.execHeartbeat payload serial checksum s
  | .gpsLbs10 payload serial checksum => Sys2Proof.Machine.execGpsLbs10 payload serial checksum s
  | .gpsLbs11 payload serial checksum => Sys2Proof.Machine.execGpsLbs11 payload serial checksum s
  | .gpsLbs12 payload serial checksum => Sys2Proof.Machine.execGpsLbs12 payload serial checksum s
  | .gpsLbs22 payload serial checksum => Sys2Proof.Machine.execGpsLbs22 payload serial checksum s
  | .gpsLbsA0 payload serial checksum => Sys2Proof.Machine.execGpsLbsA0 payload serial checksum s
  | .status payload serial checksum => Sys2Proof.Machine.execStatus payload serial checksum s
  | .alarm payload serial checksum => Sys2Proof.Machine.execAlarm payload serial checksum s
  | .gpsLbsExt payload serial checksum => Sys2Proof.Machine.execGpsLbsExt payload serial checksum s
  | .gpsLbsData payload serial checksum => Sys2Proof.Machine.execGpsLbsData payload serial checksum s
  | .wifi payload serial checksum => Sys2Proof.Machine.execWifi payload serial checksum s
  | .iccid payload serial checksum => Sys2Proof.Machine.execIccid payload serial checksum s
  | .locRep payload serial checksum => Sys2Proof.Machine.execLocRep payload serial checksum s
  | .statCmd payload serial checksum => Sys2Proof.Machine.execStatCmd payload serial checksum s
  | .infoTx payload serial checksum => Sys2Proof.Machine.execInfoTx payload serial checksum s
  | .extCmd98 payload serial checksum => Sys2Proof.Machine.execExtCmd98 payload serial checksum s
  | .extCmd99 payload serial checksum => Sys2Proof.Machine.execExtCmd99 payload serial checksum s
  | .loginX payload => Sys2Proof.Machine.execLoginX payload s
  | .gpsX payload => Sys2Proof.Machine.execGpsX payload s
  | .heartbeatX payload => Sys2Proof.Machine.execHeartbeatX payload s
  | .gpsLbs10X payload => Sys2Proof.Machine.execGpsLbs10X payload s
  | .gpsLbs11X payload => Sys2Proof.Machine.execGpsLbs11X payload s
  | .gpsLbs12X payload => Sys2Proof.Machine.execGpsLbs12X payload s
  | .gpsLbs22X payload => Sys2Proof.Machine.execGpsLbs22X payload s
  | .gpsLbsA0X payload => Sys2Proof.Machine.execGpsLbsA0X payload s
  | .statusX payload => Sys2Proof.Machine.execStatusX payload s
  | .alarmX payload => Sys2Proof.Machine.execAlarmX payload s
  | .gpsLbsExtX payload => Sys2Proof.Machine.execGpsLbsExtX payload s
  | .gpsLbsDataX payload => Sys2Proof.Machine.execGpsLbsDataX payload s
  | .wifiX payload => Sys2Proof.Machine.execWifiX payload s
  | .iccidX payload => Sys2Proof.Machine.execIccidX payload s
  | .locRepX payload => Sys2Proof.Machine.execLocRepX payload s
  | .statCmdX payload => Sys2Proof.Machine.execStatCmdX payload s
  | .infoTxX payload => Sys2Proof.Machine.execInfoTxX payload s
  | .extCmd98X payload => Sys2Proof.Machine.execExtCmd98X payload s
  | .extCmd99X payload => Sys2Proof.Machine.execExtCmd99X payload s
  | .unknown proto payload serial checksum => Sys2Proof.Machine.execUnknown proto payload serial checksum s
  | .unknownX proto payload => Sys2Proof.Machine.execUnknownX proto payload s
  | .ack proto serial crc => Sys2Proof.Machine.execAck proto serial crc s
  | .rx data last => Sys2Proof.Machine.execRx data last s
  | .csrRead offset => Sys2Proof.Machine.execCsrRead offset s
  | .csrWrite offset value => Sys2Proof.Machine.execCsrWrite offset value s
  | .cmdFlush => Sys2Proof.Machine.execCmdFlush s
  | .cmdSreset => Sys2Proof.Machine.execCmdSreset s
  | .cmdCrcInit => Sys2Proof.Machine.execCmdCrcInit s
  | .cmdPopRec => Sys2Proof.Machine.execCmdPopRec s
  | .cmdPopAck => Sys2Proof.Machine.execCmdPopAck s
  | .crcData data => Sys2Proof.Machine.execCrcData data s
  | .crcValue => Sys2Proof.Machine.execCrcValue s
  | .ackReq proto serial => Sys2Proof.Machine.execAckReq proto serial s
  | .recPeek => Sys2Proof.Machine.execRecPeek s
  | .ackPeek => Sys2Proof.Machine.execAckPeek s
  | .hreset => Sys2Proof.Machine.execHreset s

end Sys2Proof.Machine
end

