-- ==== Sys2Proof/Machine/Fetch.lean ====
section
/-! DEFINITION. Where the next operation comes from (00_scope R5): the host's pending operations. -/

namespace Sys2Proof.Machine

/-- The next host operation and the state without it; none when the host issues nothing. -/
def nextWord (s : State) : Option (PortWord × State) :=
  match s.inbox with
  | [] => none
  | w :: rest => some (w, { s with inbox := rest })

/-- An encoded instruction placed so that the next step runs it. A port word becomes the host's first pending operation. A frame
reaches the block as beats: all bytes but the last stand in ACC, the block accepts beats, and the beat of the last byte with `last = 1`
is the first pending operation (R90, R101; log 8). -/
def placeNext (e : Encoded) (s : State) : State :=
  match e with
  | .port w => { s with inbox := w :: s.inbox }
  | .frame bytes =>
    { s with acc := bytes.dropLast, halted := false, inbox := .rx (1#1 ++ bytes.getLastD 0) :: s.inbox }

/-- An opcode-table word placed so that the next step runs it; a word of no row changes nothing. -/
def placeTableWord (nbits w : Nat) (s : State) : State :=
  match tableImage nbits w with
  | some e => placeNext e s
  | none => s

end Sys2Proof.Machine
end

