-- ==== Sys2Proof/Machine/Step.lean ====
section
/-! DEFINITION. One step: the host's next operation, decoded and executed, atomically (00_scope R4, R5). -/

namespace Sys2Proof.Machine

/-- One step. With no pending operation nothing happens: the engine never runs on its own (R5; log 1). -/
def step (s : State) : Host.Outcome State Fault Refusal :=
  match nextWord s with
  | none => .next s
  | some (w, t) =>
    match decodePort w with
    | .ok i => exec i t
    | .error why => .refused (.undecodable why)

/-- `s` with an opcode-table word placed so that the very next step fetches and runs it (log 8). -/
def State.withFetchWord (s : State) (nbits w : Nat) : State := placeTableWord nbits w s

end Sys2Proof.Machine
end

