-- ==== Sys2Proof/Safety.lean ====
section
/-! DEFINITION. What a good state is: the constraints that 10_state R11, R14, R17, R19, R25 to R31 and 20_memory R46 put on every state
that a run from reset reaches. -/

namespace Sys2Proof

open Machine

/-- The views of the course and status word agree with it (R28, R46), and the fields are 0 when the group is absent (R25). -/
def gpsOk (g : GpsRegs) : Bool :=
  (g.course == g.csw.extractLsb' 0 10) && (g.north == g.csw.getLsbD 10) && (g.west == g.csw.getLsbD 11)
    && (g.fixValid == g.csw.getLsbD 12) && (g.rtBit == g.csw.getLsbD 13) && (g.vGps || g == {})

/-- The status byte's views agree with it (R29, R46), and an absent field is 0 (R25). -/
def statusRegsOk (t : StatusRegs) : Bool :=
  (t.oilElec == t.stByte.getLsbD 0) && (t.gpsTracking == t.stByte.getLsbD 1) && (t.charging == t.stByte.getLsbD 2)
    && (t.ignition == t.stByte.getLsbD 3) && (t.defence == t.stByte.getLsbD 4) && (t.flag5 == t.stByte.getLsbD 5)
    && (t.sigLvl == t.stByte.extractLsb' 6 2) && (t.vSt || t.stByte == 0) && (t.vVolt || t.volt == 0) && (t.vSig || t.sig == 0)
    && (t.vLang || t.lang == 0)

/-- The alarm byte's views agree with it (R30, R46), and an absent byte is 0 (R25). -/
def alarmRegsOk (a : AlarmRegs) : Bool :=
  (a.emergency == a.alByte.getLsbD 0) && (a.overspeed == a.alByte.getLsbD 1) && (a.lowPower == a.alByte.getLsbD 2)
    && (a.shock == a.alByte.getLsbD 3) && (a.geoIn == a.alByte.getLsbD 4) && (a.geoOut == a.alByte.getLsbD 5)
    && (a.idle == a.alByte.getLsbD 6) && (a.distance == a.alByte.getLsbD 7) && (a.vAl || a.alByte == 0)

/-- LOGIN fields whose valid bit is 0 are 0 (R25, R27). -/
def loginRegsOk (l : LoginRegs) : Bool :=
  (l.vTid || l.tid == 0) && (l.vDevType || l.devType == 0) && (l.vTz || l.tz == 0)

/-- WIFI: as many entries as WIFI_N says, at most WIFI_NDECL (R31); nothing when the count byte is absent (R25). -/
def wifiRegsOk (w : WifiRegs) : Bool :=
  w.ap.length == w.n.toNat && w.n.toNat ≤ w.nDecl.toNat && (w.vWn || w == {})

/-- ICCID: twenty digits, and ICCID_DEC only when each is at most 9 (R31); nothing when absent (R25). -/
def iccidRegsOk (c : IccidRegs) : Bool :=
  c.dig.length == 20 && (c.iccidDec == (c.vIccid && c.dig.all fun d => d.toNat ≤ 9)) && (c.vIccid || c == {})

/-- The date-time group: V_DT only with V_DTP (R28), and the whole group is 0 when absent (R25). -/
def dateTimeOk (d : DateTimeRegs) : Bool := (!d.vDt || d.vDtp) && (d.vDtp || d == {})

/-- The common fields agree with each other and with the format (R26; 30_encoding R61, R62, R68). -/
def commonOk (r : Record) : Bool :=
  r.rawLen.toNat == r.raw.length && 7 ≤ r.raw.length && r.raw.length ≤ cfg.maxFrameLen
    && stopMarkerAt r.raw r.raw.length
    && r.name == nameOf r.proto && r.kind == kindOf r.proto && r.ack == inAckSet r.proto && r.text == (r.print && inTextSet r.proto)
    && (if r.ext then
          byteAt r.raw 0 == 0x79 && byteAt r.raw 1 == 0x79 && r.serial == 0 && r.checksum == 0 && r.crc == 0 && !r.crcChk && !r.crcOk
            && r.payOff == 5 && r.payLen.toNat + 7 == r.raw.length
        else
          byteAt r.raw 0 == 0x78 && byteAt r.raw 1 == 0x78 && r.crcChk && (r.crcOk == (r.crc == r.checksum))
            && r.payOff == 4 && r.payLen.toNat + 10 == r.raw.length)

/-- A record as R25 to R31 allow it. -/
def recordOk (r : Record) : Bool :=
  commonOk r && loginRegsOk r.login && dateTimeOk r.dt && gpsOk r.gps && (r.lbs.vLbs || r.lbs == {}) && statusRegsOk r.st
    && alarmRegsOk r.al && wifiRegsOk r.wifi && iccidRegsOk r.iccid

/-- A queued acknowledgement is what the builder makes of its own serial number and protocol code (R17, R185). -/
def ackFrameOk (f : List Byte) : Bool := f == buildAck (be16 (byteAt f 4) (byteAt f 5)) (byteAt f 3)

/-- A good state: ACC within its capacity (R11), HALTED only with ACC full (R14, R90), LASTERR a code that exists (R19, R215), every
queued record and acknowledgement as the rules make them (R16, R17). -/
def stateOk (s : State) : Bool :=
  memWf s.acc && (!s.halted || s.acc.length == cfg.accCap) && s.lastErr.toNat ≤ 6 && s.recq.all recordOk && s.ackq.all ackFrameOk

/-- A run is safe when it keeps going: a step answers a next state, and that state is good. -/
def safeStep (s : State) : Bool :=
  match step s with
  | .next t => stateOk t
  | .fault _ => false
  | .refused _ => false

end Sys2Proof
end

