-- ==== Sys2Proof/Certificates/Slice0/Obligations.lean ====
section
/-! DEFINITION. The statements for the provers. Each says a numbered rule of spec/ about the model; `Sys2Proof.Claims` holds the words
they share, written from the rules and not from the model's own operations. -/

namespace Sys2Proof.Claims

open Sys2Proof.Machine

/-! Runs. -/

/-- `n` steps, when each answers a next state. -/
def steps : Nat → State → Option State
  | 0, s => some s
  | n + 1, s =>
    match step s with
    | .next t => steps n t
    | .fault _ => none
    | .refused _ => none

/-- Instructions executed one after another, when each answers a next state. -/
def execAll : List Instr → State → Option State
  | [], s => some s
  | i :: rest, s =>
    match exec i s with
    | .next t => execAll rest t
    | .fault _ => none
    | .refused _ => none

/-- The detector's passes until one stops (R91), given up after `n` of them. -/
def runPasses : Nat → State → Option State
  | 0, _ => none
  | n + 1, s =>
    match iteration s with
    | .stop t => some t
    | .again t => runPasses n t

/-! Bytes and frames, in the terms of R7, R61, R62 and R65. -/

/-- `BE(S)` (R7): each byte times the power of 256 that its place has. -/
def BE : List Byte → Nat
  | [] => 0
  | b :: rest => b.toNat * 256 ^ rest.length + BE rest

/-- `S[a..b)` (R7). -/
def slice (bytes : List Byte) (a b : Nat) : List Byte := (bytes.take b).drop a

/-- A pair `78 78` or `79 79` at index `k`, both bytes inside (R93). -/
def isPair (bytes : List Byte) (k : Nat) : Prop :=
  k + 1 < bytes.length ∧ byteAt bytes k = byteAt bytes (k + 1) ∧ (byteAt bytes k = 0x78 ∨ byteAt bytes k = 0x79)

/-- A well-formed frame instruction and its bytes: the forty STD and EXT rows. -/
def IsFrame (i : Instr) (F : List Byte) : Prop := wellFormed i = true ∧ encode i = .frame F

/-- The bytes of an instruction that is a frame. -/
def frameBytes (i : Instr) : List Byte :=
  match encode i with
  | .frame F => F
  | .port _ => []

/-- STD or EXT, by the first byte (R67). -/
def isStd (F : List Byte) : Bool := byteAt F 0 == 0x78

/-- The declared length `L` (R65). -/
def declared (F : List Byte) : Nat := if isStd F then (byteAt F 2).toNat else (byteAt F 2).toNat * 256 + (byteAt F 3).toNat

/-- The total length `T` (R65), without wrap-around. -/
def total (F : List Byte) : Nat := if isStd F then declared F + 5 else declared F + 6

/-- The bytes needed before the length field can be read (R95). -/
def lengthNeed (F : List Byte) : Nat := if isStd F then 3 else 4

/-- The least declared length of the layout (R98). -/
def leastLength (F : List Byte) : Nat := if isStd F then 5 else 1

/-- The validator finds a mismatch (R174): an STD frame whose bytes `F[2..T-4)` have another CRC than its checksum field. -/
def badChecksum (F : List Byte) : Bool :=
  isStd F && (crc16 (slice F 2 (F.length - 4))).toNat != BE (slice F (F.length - 4) (F.length - 2))

/-- The frame is not discarded: `CRC_ENFORCE` is 0 or the validator finds no mismatch (R175). -/
def accepted (s : State) (i : Instr) : Prop := s.crcEnforce = true → badChecksum (frameBytes i) = false

/-- A failed candidate (R97, R98, R100, R216): the flag, the cause code, the framing error counted, one byte dropped. -/
def failed (flag : BitVec 9) (code : BitVec 4) (s : State) : State :=
  { s with
    acc := s.acc.drop 1
    head := s.head + 1
    cntDropped := s.cntDropped + 1
    cntFramErr := s.cntFramErr + 1
    status := s.status ||| flag
    lastErr := code
    lastOff := s.head }

/-- The protocol code map (R68): code, name identifier, kind, in ACK_SET, in TEXT_SET. -/
def codeMap : List (Byte × BitVec 4 × BitVec 3 × Bool × Bool) := [
  (0x01, 1, 1, true, false), (0x02, 2, 2, false, false), (0x03, 3, 0, false, false), (0x10, 4, 2, false, false),
  (0x11, 4, 2, false, false), (0x12, 4, 2, false, false), (0x22, 4, 2, false, false), (0xA0, 4, 2, false, false),
  (0x13, 5, 3, false, false), (0x16, 6, 4, true, false), (0x19, 7, 2, true, false), (0x1A, 8, 2, false, false),
  (0x30, 9, 5, false, false), (0x69, 10, 6, false, false), (0x70, 11, 0, false, false), (0x8A, 12, 0, false, false),
  (0x94, 13, 0, false, false), (0x98, 14, 0, false, true), (0x99, 14, 0, false, true)]

/-- The protocol code that a frame row is for (R68), with the format (`true` is STD); none for the other rows. -/
def rowOf (i : Instr) : Option (Bool × Byte) :=
  match i with
  | .login _ _ _ => some (true, 0x01)
  | .gps _ _ _ => some (true, 0x02)
  | .heartbeat _ _ _ => some (true, 0x03)
  | .gpsLbs10 _ _ _ => some (true, 0x10)
  | .gpsLbs11 _ _ _ => some (true, 0x11)
  | .gpsLbs12 _ _ _ => some (true, 0x12)
  | .gpsLbs22 _ _ _ => some (true, 0x22)
  | .gpsLbsA0 _ _ _ => some (true, 0xA0)
  | .status _ _ _ => some (true, 0x13)
  | .alarm _ _ _ => some (true, 0x16)
  | .gpsLbsExt _ _ _ => some (true, 0x19)
  | .gpsLbsData _ _ _ => some (true, 0x1A)
  | .wifi _ _ _ => some (true, 0x30)
  | .iccid _ _ _ => some (true, 0x69)
  | .locRep _ _ _ => some (true, 0x70)
  | .statCmd _ _ _ => some (true, 0x8A)
  | .infoTx _ _ _ => some (true, 0x94)
  | .extCmd98 _ _ _ => some (true, 0x98)
  | .extCmd99 _ _ _ => some (true, 0x99)
  | .unknown p _ _ _ => some (true, p)
  | .loginX _ => some (false, 0x01)
  | .gpsX _ => some (false, 0x02)
  | .heartbeatX _ => some (false, 0x03)
  | .gpsLbs10X _ => some (false, 0x10)
  | .gpsLbs11X _ => some (false, 0x11)
  | .gpsLbs12X _ => some (false, 0x12)
  | .gpsLbs22X _ => some (false, 0x22)
  | .gpsLbsA0X _ => some (false, 0xA0)
  | .statusX _ => some (false, 0x13)
  | .alarmX _ => some (false, 0x16)
  | .gpsLbsExtX _ => some (false, 0x19)
  | .gpsLbsDataX _ => some (false, 0x1A)
  | .wifiX _ => some (false, 0x30)
  | .iccidX _ => some (false, 0x69)
  | .locRepX _ => some (false, 0x70)
  | .statCmdX _ => some (false, 0x8A)
  | .infoTxX _ => some (false, 0x94)
  | .extCmd98X _ => some (false, 0x98)
  | .extCmd99X _ => some (false, 0x99)
  | .unknownX p _ => some (false, p)
  | .ack _ _ _ | .rx _ _ | .csrRead _ | .csrWrite _ _ | .cmdFlush | .cmdSreset | .cmdCrcInit | .cmdPopRec | .cmdPopAck
  | .crcData _ | .crcValue | .ackReq _ _ | .recPeek | .ackPeek | .hreset => none

/-! Records. -/

/-- The common fields of a record, in the terms of R111 to R120: `F` the frame, `seq` and `off` as R101 passes them. -/
def CommonFields (F : List Byte) (seq off : Word) (r : Record) : Prop :=
  r.raw = F ∧ r.rawLen.toNat = F.length ∧ r.seq = seq ∧ r.offset = off
  ∧ r.ext = (byteAt F 0 == 0x79) ∧ r.len.toNat = declared F
  ∧ r.proto = (if isStd F then byteAt F 3 else byteAt F 4)
  ∧ r.name = nameOf r.proto ∧ r.kind = kindOf r.proto
  ∧ r.payOff.toNat = (if isStd F then 4 else 5)
  ∧ r.payLen.toNat = (if isStd F then declared F - 5 else declared F - 1)
  ∧ r.payOff.toNat + r.payLen.toNat = (if isStd F then F.length - 6 else F.length - 2)
  ∧ r.serial.toNat = (if isStd F then BE (slice F (F.length - 6) (F.length - 4)) else 0)
  ∧ r.checksum.toNat = (if isStd F then BE (slice F (F.length - 4) (F.length - 2)) else 0)
  ∧ r.crc = (if isStd F then crc16 (slice F 2 (F.length - 4)) else 0)
  ∧ r.crcChk = isStd F ∧ r.crcOk = (isStd F && r.crc == r.checksum)
  ∧ r.ack = (r.proto == 0x01 || r.proto == 0x16 || r.proto == 0x19)
  ∧ (r.print = true ↔ ∀ b ∈ slice F r.payOff.toNat (r.payOff.toNat + r.payLen.toNat), 0x20 ≤ b.toNat ∧ b.toNat ≤ 0x7E)
  ∧ r.text = (r.print && (r.proto == 0x98 || r.proto == 0x99))

/-- The date-time group of a payload at offset `o` (R131). -/
def DateTimeAt (P : List Byte) (o : Nat) (d : DateTimeRegs) : Prop :=
  d.vDtp = true ∧ d.year.toNat = 2000 + (byteAt P o).toNat
  ∧ d.mon = byteAt P (o + 1) ∧ d.day = byteAt P (o + 2) ∧ d.hour = byteAt P (o + 3) ∧ d.min = byteAt P (o + 4)
  ∧ d.sec = byteAt P (o + 5)
  ∧ (d.vDt = true ↔ (1 ≤ d.mon.toNat ∧ d.mon.toNat ≤ 12) ∧ (1 ≤ d.day.toNat ∧ d.day.toNat ≤ 31) ∧ d.hour.toNat ≤ 23
      ∧ d.min.toNat ≤ 59 ∧ d.sec.toNat ≤ 59)

/-- The GPS group of a payload at offset `o` (R132, with the conversion of R133). -/
def GpsAt (P : List Byte) (o : Nat) (g : GpsRegs) : Prop :=
  g.vGps = true ∧ g.gpsLen.toNat = (byteAt P o).toNat / 16 ∧ g.sats.toNat = (byteAt P o).toNat % 16
  ∧ g.latRaw.toNat = BE (slice P (o + 1) (o + 5)) ∧ g.lonRaw.toNat = BE (slice P (o + 5) (o + 9))
  ∧ g.speed = byteAt P (o + 9) ∧ g.csw.toNat = BE (slice P (o + 10) (o + 12))
  ∧ g.course.toNat = g.csw.toNat % 1024 ∧ g.north = g.csw.toNat.testBit 10 ∧ g.west = g.csw.toNat.testBit 11
  ∧ g.fixValid = g.csw.toNat.testBit 12 ∧ g.rtBit = g.csw.toNat.testBit 13
  ∧ g.latUdeg.toInt = (if g.north then ((10 * g.latRaw.toNat + 9) / 18 : Int) else -((10 * g.latRaw.toNat + 9) / 18 : Int))
  ∧ g.lonUdeg.toInt = (if g.west then -((10 * g.lonRaw.toNat + 9) / 18 : Int) else ((10 * g.lonRaw.toNat + 9) / 18 : Int))

/-- The LBS group of a payload at offset `o` (R134). -/
def LbsAt (P : List Byte) (o : Nat) (l : LbsRegs) : Prop :=
  l.vLbs = true ∧ l.mcc.toNat = BE (slice P o (o + 2)) ∧ l.mnc = byteAt P (o + 2)
  ∧ l.lac.toNat = BE (slice P (o + 3) (o + 5)) ∧ l.cellId.toNat = BE (slice P (o + 5) (o + 8))

/-- The GPS/LBS path from payload offset `b` with the standard offset table (R135). -/
def GpsLbsFrom (b : Nat) (P : List Byte) (r : Record) : Prop :=
  (if b + 6 ≤ P.length then DateTimeAt P b r.dt else r.dt = {})
  ∧ (if b + 18 ≤ P.length then GpsAt P (b + 6) r.gps else r.gps = {})
  ∧ (if b + 26 ≤ P.length then LbsAt P (b + 18) r.lbs else r.lbs = {})
  ∧ r.tailOff.toNat = (if b + 26 ≤ P.length then b + 26 else if b + 18 ≤ P.length then b + 18
      else if b + 6 ≤ P.length then b + 6 else b)
  ∧ r.tailLen.toNat = P.length - r.tailOff.toNat
  ∧ r.short = decide (P.length < b + 26)

/-- No field of the date-time, GPS and LBS groups is set (R25). -/
def NoPosition (r : Record) : Prop := r.dt = {} ∧ r.gps = {} ∧ r.lbs = {} ∧ r.tailOff = 0 ∧ r.tailLen = 0

/-- The rows of kind GPSLBS with their name identifier and acknowledgement flag (R141, R143 to R149). -/
def gpsLbsRows (P : List Byte) (serial checksum : Half) : List (Instr × BitVec 4 × Bool) := [
  (.gps P serial checksum, 2, false), (.gpsX P, 2, false),
  (.gpsLbs10 P serial checksum, 4, false), (.gpsLbs10X P, 4, false),
  (.gpsLbs11 P serial checksum, 4, false), (.gpsLbs11X P, 4, false),
  (.gpsLbs12 P serial checksum, 4, false), (.gpsLbs12X P, 4, false),
  (.gpsLbs22 P serial checksum, 4, false), (.gpsLbs22X P, 4, false),
  (.gpsLbsA0 P serial checksum, 4, false), (.gpsLbsA0X P, 4, false),
  (.gpsLbsExt P serial checksum, 7, true), (.gpsLbsExtX P, 7, true),
  (.gpsLbsData P serial checksum, 8, false), (.gpsLbsDataX P, 8, false)]

/-- The rows of kind OPAQUE with their name identifier and whether their code is in TEXT_SET (R142, R158 to R163); `p` is the code of
the two UNKNOWN rows. -/
def opaqueRows (p : Byte) (P : List Byte) (serial checksum : Half) : List (Instr × BitVec 4 × Bool) := [
  (.heartbeat P serial checksum, 3, false), (.heartbeatX P, 3, false),
  (.locRep P serial checksum, 11, false), (.locRepX P, 11, false),
  (.statCmd P serial checksum, 12, false), (.statCmdX P, 12, false),
  (.infoTx P serial checksum, 13, false), (.infoTxX P, 13, false),
  (.extCmd98 P serial checksum, 14, true), (.extCmd98X P, 14, true),
  (.extCmd99 P serial checksum, 14, true), (.extCmd99X P, 14, true),
  (.unknown p P serial checksum, 0, false), (.unknownX p P, 0, false)]

/-! CRC. -/

/-- One of the eight repetitions of R172. -/
def crcRepeat (r : Half) : Half := if r.getLsbD 0 then (r >>> 1) ^^^ 0x8408 else r >>> 1

/-- `step(r, b)` of R172. -/
def crcStep (r : Half) (b : Byte) : Half := crcRepeat^[8] (r ^^^ b.setWidth 16)

/-- The bytes that the CRC.DATA operations of a list feed, in order. -/
def crcDataBytes (ops : List Instr) : List Byte :=
  ops.filterMap fun i =>
    match i with
    | .crcData b => some b
    | _ => none

/-- An RX beat. -/
def isBeat (i : Instr) : Bool :=
  match i with
  | .rx _ _ => true
  | _ => false

/-- A CRC.DATA operation. -/
def isCrcData (i : Instr) : Bool :=
  match i with
  | .crcData _ => true
  | _ => false

/-! Events. -/

/-- The event table (R215): STATUS bit, LASTERR code, counts in CNT_FRAMERR, counts in CNT_CRCERR. -/
def eventTable : List (Event × Nat × Option (BitVec 4) × Bool × Bool) := [
  (.noise, 0, none, false, false), (.garbage, 1, some 1, true, false), (.badStop, 2, some 2, true, false),
  (.overLen, 3, some 3, true, false), (.runt, 4, some 4, true, false), (.crcErr, 5, some 5, false, true),
  (.short, 6, none, false, false), (.badDate, 7, none, false, false), (.ovf, 8, some 6, false, false)]

/-- HRESET, CMD.SRESET, and CMD.SRESET written as a CSR access. -/
def isReset (i : Instr) : Prop := i = .hreset ∨ i = .cmdSreset ∨ i = .csrWrite 0x28 2

/-- CMD.FLUSH, as itself and written as a CSR access. -/
def isFlush (i : Instr) : Prop := i = .cmdFlush ∨ i = .csrWrite 0x28 1

end Sys2Proof.Claims

section

open Sys2Proof Sys2Proof.Machine Sys2Proof.Claims

/-! Encoding. -/

/-- Decode and encode agree on every well-formed instruction of all 55 rows, every operand at every value the encodings of R61 to R64
admit. -/
def Obligations.DecodeEncodeAgree : Prop := ∀ i : Instr, wellFormed i = true → decode (encode i) = .ok i

/-- A frame at the head of a byte sequence is decoded whatever follows it, and what follows is left as it is. -/
def Obligations.FrameAtTheHeadIsDecoded : Prop :=
  ∀ (i : Instr) (F rest : List Byte), IsFrame i F → decodeFrame (F ++ rest) = .ok (i, rest)

/-- The converse: what is decoded as a frame is well-formed, its bytes stood at the head, and they have the properties that R101 says
the detector guarantees. -/
def Obligations.DecodedFrameStoodAtTheHead : Prop :=
  ∀ (bytes rest : List Byte) (i : Instr), decodeFrame bytes = .ok (i, rest) →
    ∃ F, IsFrame i F ∧ bytes = F ++ rest ∧ isPair F 0 ∧ F.length = total F ∧ leastLength F ≤ declared F
      ∧ F.length ≤ cfg.maxFrameLen ∧ byteAt F (F.length - 2) = 0x0D ∧ byteAt F (F.length - 1) = 0x0A

/-- R67, R68: the format of a frame row is told by the first byte, and the row is the one of the code byte. -/
def Obligations.RowIsChosenByFormatAndCode : Prop :=
  ∀ (i : Instr) (F : List Byte), IsFrame i F →
    rowOf i = some (isStd F, if isStd F then byteAt F 3 else byteAt F 4)
    ∧ ((∃ p P ser chk, i = .unknown p P ser chk) ∨ (∃ p P, i = .unknownX p P) ↔
        ∀ row ∈ codeMap, row.1 ≠ (if isStd F then byteAt F 3 else byteAt F 4))

/-- The words of the host's ports, with the ignored bits at any value: the layouts are R64's. That a CSR word decodes to the row of its
own (CRC.VALUE, the five commands, CRC.DATA, ACK.REQ) and not to CSR_READ or CSR_WRITE is the model's reading, log 11 (DEDUCED from R24,
R178, R179, R188). -/
def Obligations.HostWordsDecode : Prop :=
  (∀ (b : Byte) (last : Bool), decodePort (.rx (BitVec.ofBool last ++ b)) = .ok (.rx b last))
  ∧ (∀ (a : Byte) (ignored : Word), a ≠ 0x30 → decodePort (.csr (0#1 ++ a ++ ignored)) = .ok (.csrRead a))
  ∧ (∀ ignored : Word, decodePort (.csr (0#1 ++ 0x30#8 ++ ignored)) = .ok .crcValue)
  ∧ (∀ (a : Byte) (v : Word), a ≠ 0x28 → a ≠ 0x2C → a ≠ 0x34 → decodePort (.csr (1#1 ++ a ++ v)) = .ok (.csrWrite a v))
  ∧ (∀ (high : BitVec 24) (c : Byte), decodePort (.csr (1#1 ++ 0x28#8 ++ (high ++ c))) =
      .ok (if high = 0 ∧ c = 1 then .cmdFlush else if high = 0 ∧ c = 2 then .cmdSreset
        else if high = 0 ∧ c = 3 then .cmdCrcInit else if high = 0 ∧ c = 4 then .cmdPopRec
        else if high = 0 ∧ c = 5 then .cmdPopAck else .csrWrite 0x28 (high ++ c)))
  ∧ (∀ (ignored : BitVec 24) (b : Byte), decodePort (.csr (1#1 ++ 0x2C#8 ++ (ignored ++ b))) = .ok (.crcData b))
  ∧ (∀ (ignored p : Byte) (serial : Half), decodePort (.csr (1#1 ++ 0x34#8 ++ (ignored ++ p ++ serial))) = .ok (.ackReq p serial))

/-- Words written out from the spec's encodings decode to the instructions they stand for (sanity): LOGIN and STATUS are X3 and X12 of
95_test_vectors section 2.3, EXTCMD.98 is T7 of its section 1, the runt is the example of R98, the RX beat has the layout of R64. The
POP_REC word is the CSR access of R64 that R200 names, read as the command by log 11 (DEDUCED); the ACK word has the format of R63, read
as the row ACK by log 3 (DESIGN CHOICE). -/
def Obligations.SampleWordsDecode : Prop :=
  decode (.frame [0x78, 0x78, 0x05, 0x01, 0x00, 0x01, 0xD9, 0xDC, 0x0D, 0x0A]) = .ok (.login [] 0x0001 0xD9DC)
  ∧ decode (.frame [0x78, 0x78, 0x08, 0x13, 0xC5, 0x01, 0x90, 0x00, 0x06, 0x81, 0x86, 0x0D, 0x0A])
      = .ok (.status [0xC5, 0x01, 0x90] 0x0006 0x8186)
  ∧ decode (.frame [0x79, 0x79, 0x00, 0x03, 0x98, 0x48, 0x49, 0x0D, 0x0A]) = .ok (.extCmd98X [0x48, 0x49])
  ∧ decode (.frame [0x78, 0x78, 0x04, 0x01, 0x00, 0x01, 0x0D, 0x0A, 0x00]) = .error .runt
  ∧ decode (.port (.rx 0x178)) = .ok (.rx 0x78 true)
  ∧ decode (.port (.csr 0x12800000004)) = .ok .cmdPopRec
  ∧ decode (.port (.ack 0x78780501_0001_D9DC_0D0A)) = .ok (.ack 0x01 0x0001 0xD9DC)

/-- R68, R75 to R78: the four tables by protocol code, for the nineteen codes and for every other. -/
def Obligations.ProtocolCodeMap : Prop :=
  (∀ row ∈ codeMap, nameOf row.1 = row.2.1 ∧ kindOf row.1 = row.2.2.1 ∧ inAckSet row.1 = row.2.2.2.1 ∧ inTextSet row.1 = row.2.2.2.2)
  ∧ (∀ p : Byte, (∀ row ∈ codeMap, row.1 ≠ p) → nameOf p = 0 ∧ kindOf p = 0 ∧ inAckSet p = false ∧ inTextSet p = false)

/-! Steps and completion. -/

/-- A step takes the host's oldest pending operation and runs exactly what it decodes to; with none pending nothing happens (R5; the
queue of pending operations is the model's: log 1). That a word which decodes to nothing is refused is the model's choice too, and no
rule's: log 3 (DESIGN CHOICE). -/
def Obligations.StepRunsTheDecodedOperation : Prop :=
  (∀ (s : State) (w : PortWord) (rest : List PortWord) (i : Instr), s.inbox = w :: rest → decodePort w = .ok i →
    step s = exec i { s with inbox := rest })
  ∧ (∀ s : State, s.inbox = [] → step s = .next s)
  ∧ (∀ (s : State) (w : PortWord) (rest : List PortWord) (why : DecodeReject), s.inbox = w :: rest → decodePort w = .error why →
    step s = .refused (.undecodable why))

/-- Every instruction of every row completes in every state, and a step is turned away only on an 80-bit word that has not the ACK
format of R63 (the refusal is the model's choice: log 3). -/
def Obligations.OnlyAWordThatIsNoAckStops : Prop :=
  (∀ (i : Instr) (s : State), ∃ t, exec i s = .next t)
  ∧ (∀ s : State, (∀ (f : BitVec 80) (rest : List PortWord), s.inbox = .ack f :: rest →
        f.extractLsb' 56 24 = 0x787805 ∧ f.extractLsb' 0 16 = 0x0D0A) → ∃ t, step s = .next t)
  ∧ (∀ (s : State) (f : BitVec 80) (rest : List PortWord), s.inbox = .ack f :: rest →
        ¬ (f.extractLsb' 56 24 = 0x787805 ∧ f.extractLsb' 0 16 = 0x0D0A) → step s = .refused (.undecodable .notAckFormat))

/-- A frame whose last byte arrives with `last = 1`, alone in the accumulator, has exactly the effect of its instruction (R90, R101,
R110): the meanings of the forty frame rows are reached by RX beats. -/
def Obligations.FrameReceivedIsExecuted : Prop :=
  ∀ (i : Instr) (F : List Byte) (s : State), IsFrame i F → s.halted = false → s.acc = F.dropLast →
    exec (.rx (F.getLastD 0) true) s = exec i { s with acc := F }

/-! The receive operation and the detector. -/

/-- R90: the four cases of an RX beat. -/
def Obligations.ReceiveBeat : Prop :=
  ∀ (b : Byte) (last : Bool) (s : State),
    (s.halted = true → exec (.rx b last) s = .next s)
    ∧ (s.halted = false → s.acc.length = cfg.accCap → exec (.rx b last) s = .next { s with
          halted := true, status := s.status ||| 0x100, lastErr := 6, lastOff := s.head + BitVec.ofNat 32 s.acc.length })
    ∧ (s.halted = false → s.acc.length ≠ cfg.accCap → exec (.rx b false) s = .next { s with acc := s.acc ++ [b] })
    ∧ (s.halted = false → s.acc.length ≠ cfg.accCap → exec (.rx b true) s = .next (drain { s with acc := s.acc ++ [b] }))

/-- R91, R102, R255: a drain repeats the pass while a pass says to go on, and has stopped after at most `ACC_LEN + 1` passes. -/
def Obligations.DrainRepeatsThePass : Prop :=
  ∀ s : State, runPasses (s.acc.length + 1) s = some (drain s)
    ∧ drain s = (match iteration s with
        | .stop t => t
        | .again t => drain t)

/-- R92: with fewer than five bytes the loop stops and nothing changes. -/
def Obligations.LoopGuard : Prop :=
  ∀ s : State, s.acc.length < 5 → iteration s = .stop s ∧ drain s = s

/-- R93: the scan finds the least pair, and without a pair the whole accumulator is dropped as GARBAGE. -/
def Obligations.MarkerScanAndGarbage : Prop :=
  ∀ s : State,
    (∀ k, markerIndex s.acc = some k ↔ isPair s.acc k ∧ ∀ j < k, ¬ isPair s.acc j)
    ∧ (markerIndex s.acc = none ↔ ∀ k, ¬ isPair s.acc k)
    ∧ (5 ≤ s.acc.length → (∀ k, ¬ isPair s.acc k) → iteration s = .stop { s with
          acc := []
          head := s.head + BitVec.ofNat 32 s.acc.length
          cntDropped := s.cntDropped + BitVec.ofNat 32 s.acc.length
          cntFramErr := s.cntFramErr + 1
          status := s.status ||| 0x002
          lastErr := 1
          lastOff := s.head })

/-- R94: the bytes ahead of the first marker are dropped as NOISE, which is no framing error; the candidate then begins with the
marker. With no byte ahead nothing happens. -/
def Obligations.NoiseResynchronization : Prop :=
  ∀ (s : State) (k : Nat), 5 ≤ s.acc.length → isPair s.acc k → (∀ j < k, ¬ isPair s.acc j) →
    isPair (s.acc.drop k) 0
    ∧ iteration s = candidate (if k = 0 then s else { s with
          acc := s.acc.drop k
          head := s.head + BitVec.ofNat 32 k
          cntDropped := s.cntDropped + BitVec.ofNat 32 k
          status := s.status ||| 0x001 })

/-- R95 to R101 and their order (R219): what becomes of a candidate, by its raw bytes. -/
def Obligations.CandidateOutcomes : Prop :=
  ∀ s : State, isPair s.acc 0 →
    if s.acc.length < lengthNeed s.acc then candidate s = .stop s
    else if cfg.maxFrameLen < total s.acc then candidate s = .again (failed 0x008 3 s)
    else if declared s.acc < leastLength s.acc then candidate s = .again (failed 0x010 4 s)
    else if s.acc.length < total s.acc then candidate s = .stop s
    else if byteAt s.acc (total s.acc - 2) ≠ 0x0D ∨ byteAt s.acc (total s.acc - 1) ≠ 0x0A then
      candidate s = .again (failed 0x004 2 s)
    else ∃ i t, decode (.frame (s.acc.take (total s.acc))) = .ok i ∧ exec i s = .next t ∧ candidate s = .again t
      ∧ t.acc = s.acc.drop (total s.acc) ∧ t.head = s.head + BitVec.ofNat 32 (total s.acc)
      ∧ t.cntFrames = s.cntFrames + 1 ∧ t.cntDropped = s.cntDropped

/-- R102: every pass removes a prefix of the accumulator and advances HEAD by its length; a pass after which the loop goes on removes at
least one byte. -/
def Obligations.PassRemovesAPrefix : Prop :=
  ∀ s : State, match iteration s with
    | .stop t => ∃ n ≤ s.acc.length, t.acc = s.acc.drop n ∧ t.head = s.head + BitVec.ofNat 32 n
    | .again t => ∃ n ≤ s.acc.length, 1 ≤ n ∧ t.acc = s.acc.drop n ∧ t.head = s.head + BitVec.ofNat 32 n

/-- R103: what a drain leaves, and that chunks of at most `ACC_CAP - MAX_FRAME_LEN + 1` bytes never overflow. -/
def Obligations.WhatADrainLeaves : Prop :=
  (∀ s : State, (drain s).acc.length ≤ cfg.maxFrameLen - 1
    ∧ ((drain s).acc.length < 5
      ∨ (isPair (drain s).acc 0 ∧ lengthNeed (drain s).acc ≤ (drain s).acc.length
          ∧ (drain s).acc.length < total (drain s).acc ∧ total (drain s).acc ≤ cfg.maxFrameLen)))
  ∧ (∀ (chunk : List Byte) (s : State), chunk ≠ [] → chunk.length ≤ cfg.accCap - cfg.maxFrameLen + 1 →
      s.acc.length ≤ cfg.maxFrameLen - 1 → s.halted = false →
      (feed chunk s).halted = false ∧ (feed chunk s).status.getLsbD 8 = s.status.getLsbD 8
        ∧ (feed chunk s).acc.length ≤ cfg.maxFrameLen - 1)

/-- R104: draining what a drain has left changes nothing. -/
def Obligations.EmptyChunkChangesNothing : Prop := ∀ s : State, drain (drain s) = drain s

/-- R90: a chunk is its bytes as RX beats, `last` on the last one only, and stepping through them is feeding the chunk. -/
def Obligations.ChunkIsItsBeats : Prop :=
  ∀ (chunk : List Byte) (s : State) (later : List PortWord), s.inbox = chunkWords chunk ++ later →
    chunkWords chunk = chunk.zipIdx.map (fun c => .rx (BitVec.ofBool (c.2 + 1 == chunk.length) ++ c.1))
    ∧ steps chunk.length s = some (feed chunk { s with inbox := later })

/-- R105 (with the chunk sizes of R103, under which no beat overflows): into an empty accumulator a stream of well-formed frames back
to back gives the frames' effects in order, however it is cut into chunks; at every chunk end the accumulator holds fewer than five
bytes or begins with a marker, and neither NOISE nor GARBAGE has been raised. -/
def Obligations.ReassemblyIdempotence : Prop :=
  ∀ (frames : List Instr) (chunks : List (List Byte)) (s : State), (∀ i ∈ frames, ∃ F, IsFrame i F) →
    chunks.flatten = frames.flatMap frameBytes → (∀ c ∈ chunks, c.length ≤ cfg.accCap - cfg.maxFrameLen + 1) →
    s.acc = [] → s.halted = false →
    execAll frames { s with acc := chunks.flatten } = some (feedChunks chunks s)
    ∧ ∀ before after, chunks = before ++ after →
        ((feedChunks before s).acc.length < 5 ∨ isPair (feedChunks before s).acc 0)
        ∧ (feedChunks before s).status.getLsbD 0 = s.status.getLsbD 0
        ∧ (feedChunks before s).status.getLsbD 1 = s.status.getLsbD 1

/-- R107 (for a chunk that fits the accumulator, and for both formats): garbage without a marker pair, then one frame, in one chunk into
an empty accumulator, gives the frame's effect, with the garbage dropped as NOISE. -/
def Obligations.Resynchronization : Prop :=
  ∀ (garbage F : List Byte) (i : Instr) (s : State), IsFrame i F → (∀ k < garbage.length, ¬ isPair (garbage ++ F.take 1) k) →
    garbage.length + F.length ≤ cfg.accCap → s.acc = [] → s.halted = false →
    exec i { s with
        acc := F
        head := s.head + BitVec.ofNat 32 garbage.length
        cntDropped := s.cntDropped + BitVec.ofNat 32 garbage.length
        status := if garbage = [] then s.status else s.status ||| 0x001 }
      = .next (feed (garbage ++ F) s)

/-! Invariants and whole-machine rules. -/

/-- A step keeps a good state good (Safety.lean, `stateOk`: R11, R14, R17, R19, R25 to R31, R46), from every good state. -/
def Obligations.StepKeepsStateOk : Prop :=
  ∀ s t : State, stateOk s = true → step s = .next t → stateOk t = true

/-- The reset state is good. -/
def Obligations.ResetStateIsOk : Prop := stateOk State.reset = true

/-- R35: the values after reset. -/
def Obligations.ResetValues : Prop :=
  State.reset.acc = [] ∧ State.reset.head = 0 ∧ State.reset.halted = false ∧ State.reset.crcEnforce = false
  ∧ State.reset.ackEn = true ∧ ctrlWord State.reset = 0x00000002 ∧ State.reset.status = 0 ∧ State.reset.lastErr = 0
  ∧ State.reset.lastOff = 0 ∧ State.reset.cntFrames = 0 ∧ State.reset.cntDropped = 0 ∧ State.reset.cntFramErr = 0
  ∧ State.reset.cntCrcErr = 0 ∧ State.reset.crcReg = 0xFFFF ∧ State.reset.recq = [] ∧ State.reset.ackq = []

/-- The parameters of R6 and the constraints that it and R243 put on them. -/
def Obligations.InstanceParameters : Prop :=
  cfg.maxFrameLen = 1024 ∧ cfg.accCap = 2048 ∧ (∀ p : Byte, p ∈ cfg.ackSet ↔ p = 0x01 ∨ p = 0x16 ∨ p = 0x19)
  ∧ (∀ p : Byte, p ∈ cfg.textSet ↔ p = 0x98 ∨ p = 0x99)
  ∧ (∀ p : Byte, cfg.gpsOffsets p = { dt := 0, gps := 6, lbs := 18, fin := 26 }) ∧ cfg.idValue = 0x46564531
  ∧ 10 ≤ cfg.maxFrameLen ∧ cfg.maxFrameLen ≤ 65541 ∧ cfg.maxFrameLen ≤ cfg.accCap

/-- R14: HALTED is set only by an RX beat that finds ACC full, left only by FLUSH, SRESET or HRESET, and while it is set a beat changes
nothing. -/
def Obligations.HaltedIsSetByOverflowOnly : Prop :=
  State.reset.halted = false
  ∧ ∀ (i : Instr) (s t : State), exec i s = .next t →
      (s.halted = true → t.halted = false → isFlush i ∨ isReset i)
      ∧ (s.halted = false → t.halted = true → (∃ b last, i = .rx b last) ∧ s.acc.length = cfg.accCap)
      ∧ (s.halted = true → (∃ b last, i = .rx b last) → t = s)
      ∧ (isFlush i ∨ isReset i → t.halted = false)

/-- R41 (and R11, R42): the accumulator gains a byte only by an RX beat with room, at its tail, and loses bytes only from its head; no
byte is changed in place. -/
def Obligations.AccumulatorIsAppendedAndDropped : Prop :=
  ∀ (i : Instr) (s t : State), s.acc.length ≤ cfg.accCap → exec i s = .next t →
    (∃ n, t.acc = s.acc.drop n)
    ∨ (∃ b last n, i = .rx b last ∧ s.halted = false ∧ s.acc.length < cfg.accCap ∧ t.acc = (s.acc ++ [b]).drop n)

/-- R15, R18, R22, R23, R216: apart from a reset, which operations write CRC_REG and CTRL, which change the counters, LASTERR and
LASTOFF, and that a flag is cleared only by a write of 1 to it. -/
def Obligations.OnlyTheseOperationsWriteTheControlState : Prop :=
  ∀ (i : Instr) (s t : State), exec i s = .next t → ¬ isReset i →
    (t.crcReg ≠ s.crcReg → i = .cmdCrcInit ∨ i = .csrWrite 0x28 3 ∨ (∃ b, i = .crcData b) ∨ (∃ v, i = .csrWrite 0x2C v))
    ∧ ((t.crcEnforce ≠ s.crcEnforce ∨ t.ackEn ≠ s.ackEn) → ∃ v, i = .csrWrite 0x04 v)
    ∧ ((t.cntFrames ≠ s.cntFrames ∨ t.cntCrcErr ≠ s.cntCrcErr) → rowOf i ≠ none ∨ ∃ b, i = .rx b true)
    ∧ ((t.cntDropped ≠ s.cntDropped ∨ t.cntFramErr ≠ s.cntFramErr) → ∃ b, i = .rx b true)
    ∧ ((t.lastErr ≠ s.lastErr ∨ t.lastOff ≠ s.lastOff) → rowOf i ≠ none ∨ ∃ b last, i = .rx b last)
    ∧ (∀ k < 9, s.status.getLsbD k = true → t.status.getLsbD k = false → ∃ v, i = .csrWrite 0x08 v ∧ v.getLsbD k = true)

/-- R16, R17, R25: both queues are first in, first out, and a queued entry is never changed: an operation appends entries at the tail, or
removes the head (the two pops, on their own queue), or empties the queue. Only frames append records. -/
def Obligations.QueuesAreFirstInFirstOut : Prop :=
  ∀ (i : Instr) (s t : State), exec i s = .next t →
    ((∃ new, t.recq = s.recq ++ new ∧ (new ≠ [] → rowOf i ≠ none ∨ ∃ b, i = .rx b true))
      ∨ (t.recq = s.recq.drop 1 ∧ (i = .cmdPopRec ∨ i = .csrWrite 0x28 4)) ∨ (t.recq = [] ∧ isReset i))
    ∧ ((∃ new, t.ackq = s.ackq ++ new) ∨ (t.ackq = s.ackq.drop 1 ∧ (i = .cmdPopAck ∨ i = .csrWrite 0x28 5))
      ∨ (t.ackq = [] ∧ (isReset i ∨ isFlush i)))

/-- R13, R18, R102, R255: across a beat that is accepted, HEAD plus ACC_LEN grows by the one byte received, and HEAD advances by the
bytes dropped and the bytes of the frames yielded (with `CRC_ENFORCE = 0`, when every yielded frame leaves its record). -/
def Obligations.EveryByteIsYieldedOrDropped : Prop :=
  ∀ (b : Byte) (last : Bool) (s : State), s.halted = false → s.acc.length ≠ cfg.accCap → s.crcEnforce = false →
    ∃ t new, exec (.rx b last) s = .next t ∧ t.recq = s.recq ++ new
      ∧ t.head + BitVec.ofNat 32 t.acc.length = s.head + BitVec.ofNat 32 (s.acc.length + 1)
      ∧ t.head + s.cntDropped = s.head + t.cntDropped + BitVec.ofNat 32 ((new.map fun r => r.raw.length).sum)
      ∧ t.cntFrames = s.cntFrames + BitVec.ofNat 32 new.length

/-- R51, R112, R187: the records of one beat enter RECQ in the order of their frames, numbered without a gap (`CRC_ENFORCE = 0`), each
with its own bytes of the stream; the acknowledgements of the flagged ones enter ACKQ in the same order. -/
def Obligations.RecordsAndAcksInFrameOrder : Prop :=
  ∀ (b : Byte) (last : Bool) (s : State), s.halted = false → s.acc.length < cfg.accCap → s.crcEnforce = false →
    ∃ t new, exec (.rx b last) s = .next t ∧ t.recq = s.recq ++ new
      ∧ (∀ k r, new[k]? = some r → r.seq = s.cntFrames + BitVec.ofNat 32 k
          ∧ r.raw = slice (s.acc ++ [b]) (r.offset - s.head).toNat ((r.offset - s.head).toNat + r.raw.length))
      ∧ new.Pairwise (fun q r => (q.offset - s.head).toNat + q.raw.length ≤ (r.offset - s.head).toNat)
      ∧ t.ackq = s.ackq ++ (if s.ackEn then (new.filter (·.ack)).map (fun r => buildAck r.serial r.proto) else [])

/-! The frames. -/

/-- R175, R187 (with the yield of R101 and the order of R110), for the forty frame rows at the head of ACC: the frame leaves ACC and is
counted; a mismatch raises CRCERR and, under `CRC_ENFORCE`, discards the frame; otherwise one record is pushed, then its
acknowledgement exactly when it is flagged and `ACK_EN` is 1; SHORT and BADDATE are raised by the record; everything else stays. -/
def Obligations.FrameInstructionEffect : Prop :=
  ∀ (i : Instr) (F rest : List Byte) (s : State), IsFrame i F → s.acc = F ++ rest →
    ∃ t, exec i s = .next t
      ∧ t.acc = rest ∧ (∀ j, memByte t.acc j = memByte s.acc (F.length + j))
      ∧ t.head = s.head + BitVec.ofNat 32 F.length ∧ t.cntFrames = s.cntFrames + 1
      ∧ t.halted = s.halted ∧ t.crcEnforce = s.crcEnforce ∧ t.ackEn = s.ackEn ∧ t.cntDropped = s.cntDropped
      ∧ t.cntFramErr = s.cntFramErr ∧ t.crcReg = s.crcReg ∧ t.inbox = s.inbox ∧ t.result = s.result
      ∧ (if badChecksum F then t.lastErr = 5 ∧ t.lastOff = s.head ∧ t.cntCrcErr = s.cntCrcErr + 1
          else t.lastErr = s.lastErr ∧ t.lastOff = s.lastOff ∧ t.cntCrcErr = s.cntCrcErr)
      ∧ (if badChecksum F = true ∧ s.crcEnforce = true then
            t.recq = s.recq ∧ t.ackq = s.ackq ∧ t.status = s.status ||| 0x020
          else ∃ r, t.recq = s.recq ++ [r]
            ∧ t.ackq = (if r.ack && s.ackEn then s.ackq ++ [buildAck r.serial r.proto] else s.ackq)
            ∧ t.status = s.status ||| (if badChecksum F then 0x020 else 0) ||| (if r.short then 0x040 else 0)
                ||| (if r.dt.vDtp && !r.dt.vDt then 0x080 else 0))

/-- R111 to R120, for the forty frame rows: the common fields of the record, from the frame's bytes. -/
def Obligations.CommonFieldsOfEveryFrame : Prop :=
  ∀ (i : Instr) (F : List Byte) (s : State), IsFrame i F → accepted s i →
    ∃ (t : State) (r : Record), exec i s = .next t ∧ t.recq = s.recq ++ [r] ∧ CommonFields F s.cntFrames s.head r
      ∧ 7 ≤ F.length ∧ F.length ≤ cfg.maxFrameLen

/-- R140: LOGIN in both formats. No other group of fields is set (R25). -/
def Obligations.LoginFields : Prop :=
  ∀ (P : List Byte) (serial checksum : Half) (i : Instr) (s : State),
    i = .login P serial checksum ∨ i = .loginX P → wellFormed i = true → accepted s i →
    ∃ (t : State) (r : Record), exec i s = .next t ∧ t.recq = s.recq ++ [r] ∧ r.name = 1 ∧ r.kind = 1 ∧ r.ack = true
      ∧ r.short = decide (P.length < 8)
      ∧ r.login.vTid = decide (8 ≤ P.length) ∧ r.login.tid.toNat = (if 8 ≤ P.length then BE (slice P 0 8) else 0)
      ∧ r.login.vDevType = decide (10 ≤ P.length) ∧ r.login.devType.toNat = (if 10 ≤ P.length then BE (slice P 8 10) else 0)
      ∧ r.login.vTz = decide (12 ≤ P.length) ∧ r.login.tz.toNat = (if 12 ≤ P.length then BE (slice P 10 12) else 0)
      ∧ NoPosition r ∧ r.st = {} ∧ r.al = {} ∧ r.wifi = {} ∧ r.iccid = {}

/-- R141, R143 to R149 (through R131, R132, R134, R135): the sixteen rows of kind GPSLBS. The places of the bits of the course and
status word are those the spec adopts (log 10). -/
def Obligations.GpsLbsFields : Prop :=
  ∀ (P : List Byte) (serial checksum : Half) (s : State), ∀ row ∈ gpsLbsRows P serial checksum,
    wellFormed row.1 = true → accepted s row.1 →
    ∃ (t : State) (r : Record), exec row.1 s = .next t ∧ t.recq = s.recq ++ [r] ∧ r.name = row.2.1 ∧ r.kind = 2 ∧ r.ack = row.2.2
      ∧ GpsLbsFrom 0 P r
      ∧ r.login = {} ∧ r.st = {} ∧ r.al = {} ∧ r.wifi = {} ∧ r.iccid = {}

/-- R152 (with R135 at `b = 1`): ALARM in both formats. -/
def Obligations.AlarmFields : Prop :=
  ∀ (P : List Byte) (serial checksum : Half) (i : Instr) (s : State),
    i = .alarm P serial checksum ∨ i = .alarmX P → wellFormed i = true → accepted s i →
    ∃ (t : State) (r : Record), exec i s = .next t ∧ t.recq = s.recq ++ [r] ∧ r.name = 6 ∧ r.kind = 4 ∧ r.ack = true
      ∧ r.al.vAl = decide (1 ≤ P.length) ∧ r.al.alByte = (if 1 ≤ P.length then byteAt P 0 else 0)
      ∧ r.al.emergency = r.al.alByte.getLsbD 0 ∧ r.al.overspeed = r.al.alByte.getLsbD 1
      ∧ r.al.lowPower = r.al.alByte.getLsbD 2 ∧ r.al.shock = r.al.alByte.getLsbD 3
      ∧ r.al.geoIn = r.al.alByte.getLsbD 4 ∧ r.al.geoOut = r.al.alByte.getLsbD 5
      ∧ r.al.idle = r.al.alByte.getLsbD 6 ∧ r.al.distance = r.al.alByte.getLsbD 7
      ∧ GpsLbsFrom 1 P r
      ∧ r.login = {} ∧ r.st = {} ∧ r.wifi = {} ∧ r.iccid = {}

/-- R150: STATUS in both formats. -/
def Obligations.StatusFields : Prop :=
  ∀ (P : List Byte) (serial checksum : Half) (i : Instr) (s : State),
    i = .status P serial checksum ∨ i = .statusX P → wellFormed i = true → accepted s i →
    ∃ (t : State) (r : Record), exec i s = .next t ∧ t.recq = s.recq ++ [r] ∧ r.name = 5 ∧ r.kind = 3 ∧ r.ack = false
      ∧ r.short = decide (P.length < 4)
      ∧ r.st.vSt = decide (1 ≤ P.length) ∧ r.st.stByte = (if 1 ≤ P.length then byteAt P 0 else 0)
      ∧ r.st.oilElec = r.st.stByte.getLsbD 0 ∧ r.st.gpsTracking = r.st.stByte.getLsbD 1
      ∧ r.st.charging = r.st.stByte.getLsbD 2 ∧ r.st.ignition = r.st.stByte.getLsbD 3
      ∧ r.st.defence = r.st.stByte.getLsbD 4 ∧ r.st.flag5 = r.st.stByte.getLsbD 5
      ∧ r.st.sigLvl.toNat = r.st.stByte.toNat / 64
      ∧ r.st.vVolt = decide (3 ≤ P.length) ∧ r.st.volt.toNat = (if 3 ≤ P.length then BE (slice P 1 3) else 0)
      ∧ r.st.vSig = decide (4 ≤ P.length) ∧ r.st.sig = (if 4 ≤ P.length then byteAt P 3 else 0)
      ∧ r.st.vLang = decide (6 ≤ P.length) ∧ r.st.lang.toNat = (if 6 ≤ P.length then BE (slice P 4 6) else 0)
      ∧ NoPosition r ∧ r.login = {} ∧ r.al = {} ∧ r.wifi = {} ∧ r.iccid = {}

/-- R154 (with the date-time of R131): WIFI in both formats. -/
def Obligations.WifiFields : Prop :=
  ∀ (P : List Byte) (serial checksum : Half) (i : Instr) (s : State),
    i = .wifi P serial checksum ∨ i = .wifiX P → wellFormed i = true → accepted s i →
    ∃ (t : State) (r : Record), exec i s = .next t ∧ t.recq = s.recq ++ [r] ∧ r.name = 9 ∧ r.kind = 5 ∧ r.ack = false
      ∧ (if 6 ≤ P.length then DateTimeAt P 0 r.dt else r.dt = {})
      ∧ (if 7 ≤ P.length then
            r.wifi.vWn = true ∧ r.wifi.nDecl = byteAt P 6
            ∧ r.wifi.n.toNat = min (byteAt P 6).toNat ((P.length - 7) / 7)
            ∧ r.wifi.ap.length = r.wifi.n.toNat
            ∧ (∀ k ap, r.wifi.ap[k]? = some ap →
                ap.mac.toNat = BE (slice P (7 + 7 * k) (13 + 7 * k)) ∧ ap.rssi = byteAt P (13 + 7 * k))
            ∧ r.short = decide (r.wifi.n.toNat < r.wifi.nDecl.toNat)
          else r.wifi = {} ∧ r.short = true)
      ∧ r.gps = {} ∧ r.lbs = {} ∧ r.tailOff = 0 ∧ r.tailLen = 0 ∧ r.login = {} ∧ r.st = {} ∧ r.al = {} ∧ r.iccid = {}

/-- R156: ICCID in both formats, low nibble of each byte first. That DIG has twenty digits whatever the payload's length, and that they
are twenty zeros where no digit is extracted, is the model's reading, log 12 (DEDUCED from R25 and R31). -/
def Obligations.IccidFields : Prop :=
  ∀ (P : List Byte) (serial checksum : Half) (i : Instr) (s : State),
    i = .iccid P serial checksum ∨ i = .iccidX P → wellFormed i = true → accepted s i →
    ∃ (t : State) (r : Record), exec i s = .next t ∧ t.recq = s.recq ++ [r] ∧ r.name = 10 ∧ r.kind = 6 ∧ r.ack = false
      ∧ r.short = decide (P.length < 10) ∧ r.iccid.dig.length = 20
      ∧ (if 10 ≤ P.length then
            r.iccid.vIccid = true
            ∧ (∀ k < 10, (r.iccid.dig[2 * k]?).map BitVec.toNat = some ((byteAt P k).toNat % 16)
                ∧ (r.iccid.dig[2 * k + 1]?).map BitVec.toNat = some ((byteAt P k).toNat / 16))
            ∧ (r.iccid.iccidDec = true ↔ ∀ d ∈ r.iccid.dig, d.toNat ≤ 9)
          else r.iccid = {})
      ∧ NoPosition r ∧ r.login = {} ∧ r.st = {} ∧ r.al = {} ∧ r.wifi = {}

/-- R142, R158 to R163: the fourteen rows of kind OPAQUE set nothing beyond the common fields and are never short; an unlisted code has
no name; PROTO is the row's code, and TEXT is PRINT for the two codes of TEXT_SET and 0 for the others. -/
def Obligations.OpaqueFields : Prop :=
  ∀ (p : Byte) (P : List Byte) (serial checksum : Half) (s : State), ∀ row ∈ opaqueRows p P serial checksum,
    wellFormed row.1 = true → accepted s row.1 →
    ∃ (t : State) (r : Record), exec row.1 s = .next t ∧ t.recq = s.recq ++ [r] ∧ r.name = row.2.1 ∧ r.kind = 0 ∧ r.ack = false ∧ r.short = false
      ∧ slice r.raw r.payOff.toNat (r.payOff.toNat + r.payLen.toNat) = P
      ∧ (badChecksum (frameBytes row.1) = false → t.status = s.status)
      ∧ (rowOf row.1).map Prod.snd = some r.proto
      ∧ r.text = (r.print && row.2.2)
      ∧ (r.print = true ↔ ∀ b ∈ P, 0x20 ≤ b.toNat ∧ b.toNat ≤ 0x7E)
      ∧ NoPosition r ∧ r.login = {} ∧ r.st = {} ∧ r.al = {} ∧ r.wifi = {} ∧ r.iccid = {}

/-- R123: in any two states a frame leaves the same record but for SEQ and OFFSET, which are the frame count and HEAD of its own
state. -/
def Obligations.RecordDependsOnTheFrameOnly : Prop :=
  ∀ (i : Instr) (F : List Byte) (s1 s2 t1 t2 : State) (r1 r2 : Record), IsFrame i F →
    exec i s1 = .next t1 → t1.recq = s1.recq ++ [r1] → exec i s2 = .next t2 → t2.recq = s2.recq ++ [r2] →
    r1.seq = s1.cntFrames ∧ r1.offset = s1.head ∧ { r1 with seq := r2.seq, offset := r2.offset } = r2

/-- R133: `Udeg` by its formula; it rounds `raw * 5 / 9` to the nearest integer, of which there is only one, and both signs fit the 33
bits. -/
def Obligations.UdegIsTheNearestInteger : Prop :=
  udeg 0xFFFFFFFF = 2386092942 ∧ ∀ raw : Word,
    udeg raw.toNat = (10 * raw.toNat + 9) / 18
    ∧ (∀ z : Int, z ≠ udeg raw.toNat → |9 * (udeg raw.toNat : Int) - 5 * raw.toNat| < |9 * z - 5 * raw.toNat|)
    ∧ (signedUdeg true raw).toInt = udeg raw.toNat ∧ (signedUdeg false raw).toInt = -(udeg raw.toNat : Int)

/-! The CRC. -/

/-- R172: the CRC by its bits, its corner cases and its two worked examples. -/
def Obligations.CrcByBits : Prop :=
  (∀ (r : Half) (b : Byte), crcByte r b = crcStep r b)
  ∧ (∀ S : List Byte, crc16 S = S.foldl crcStep 0xFFFF ^^^ 0xFFFF)
  ∧ crc16 [] = 0x0000 ∧ crc16 [0x00] = 0xF078 ∧ crc16 [0xFF] = 0xFF00 ∧ crc16 [0x01] = 0xE1F1
  ∧ crc16 [0x05, 0x01, 0x00, 0x01] = 0xD9DC
  ∧ crc16 [0x31, 0x32, 0x33, 0x34, 0x35, 0x36, 0x37, 0x38, 0x39] = 0x906E

/-- R173: the printed table is the one its definition gives, and the table-driven step is the step by bits. -/
def Obligations.CrcTableForm : Prop :=
  crcTable.length = 256
  ∧ (∀ k : Byte, crcTable.getD k.toNat 0 = crcStep (k.setWidth 16) 0)
  ∧ (∀ (r : Half) (b : Byte), crcStep r b = (r >>> 8) ^^^ crcTable.getD ((r ^^^ b.setWidth 16).extractLsb' 0 8).toNat 0
      ∧ crcByteTable r b = crcStep r b)

/-- R180: incremental evaluation, the residue of a message with its CRC low byte first, and the detection of one corrupted byte. The
spec marks its items (d) and (e) as general knowledge; the statement rests on R172 alone. -/
def Obligations.CrcProperties : Prop :=
  (∀ (r : Half) (S S' : List Byte), crcBytes r (S ++ S') = crcBytes (crcBytes r S) S')
  ∧ (∀ S : List Byte, crc16 (S ++ [lo8 (crc16 S), hi8 (crc16 S)]) = 0x0F47)
  ∧ (∀ (S S' : List Byte) (b b' : Byte), b ≠ b' → crc16 (S ++ b :: S') ≠ crc16 (S ++ b' :: S'))

/-- R177: the direct port computes `crc16` of the bytes fed, undisturbed by RX beats among them, and leaves what the beats do as it
is. -/
def Obligations.DirectPortComputesTheCrc : Prop :=
  ∀ (ops : List Instr) (s : State), (∀ i ∈ ops, isCrcData i = true ∨ isBeat i = true) →
    ∃ u, execAll (ops.filter isBeat) s = some u
      ∧ execAll (.cmdCrcInit :: (ops ++ [.crcValue])) s
          = some { u with
              crcReg := crc16 (crcDataBytes ops) ^^^ 0xFFFF
              result := .word ((crc16 (crcDataBytes ops)).setWidth 32) }

/-- R178, R179: one byte into the direct port, and its read; each changes nothing else. -/
def Obligations.CrcDataAndCrcValue : Prop :=
  ∀ (b : Byte) (s : State),
    exec (.crcData b) s = .next { s with crcReg := crcStep s.crcReg b }
    ∧ (∀ ignored : BitVec 24, exec (.csrWrite 0x2C (ignored ++ b)) s = exec (.crcData b) s)
    ∧ exec .crcValue s = .next { s with result := .word ((s.crcReg ^^^ 0xFFFF).setWidth 32) }
    ∧ exec (.csrRead 0x30) s = exec .crcValue s

/-! Acknowledgements. -/

/-- R185: the ten bytes, with the CRC of length, protocol and serial number. -/
def Obligations.AckFrameLayout : Prop :=
  ∀ (serial : Half) (p : Byte), (buildAck serial p).length = 10
    ∧ slice (buildAck serial p) 0 4 = [0x78, 0x78, 0x05, p] ∧ BE (slice (buildAck serial p) 4 6) = serial.toNat
    ∧ BE (slice (buildAck serial p) 6 8) = (crc16 (slice (buildAck serial p) 2 6)).toNat
    ∧ slice (buildAck serial p) 8 10 = [0x0D, 0x0A]

/-- R186: an acknowledgement is a well-formed STD frame with an empty payload that the block itself accepts, serial number and code
copied, nothing escaped. -/
def Obligations.AckIsAnAcceptedFrame : Prop :=
  (∀ (serial : Half) (p : Byte), (buildAck serial p).length = 10
    ∧ buildAck serial p = stdFrame p [] serial (crc16 (stdCovered p [] serial))
    ∧ ∃ r, (feed (buildAck serial p) State.reset).recq = [r] ∧ (feed (buildAck serial p) State.reset).acc = []
        ∧ (feed (buildAck serial p) State.reset).cntFrames = 1
        ∧ r.serial = serial ∧ r.proto = p ∧ r.crcOk = true ∧ r.payLen = 0)
  ∧ (∀ (serial serial' : Half) (p p' : Byte), buildAck serial p = buildAck serial' p' → serial = serial' ∧ p = p')
  ∧ buildAck 0x0D0A 0x16 = [0x78, 0x78, 0x05, 0x16, 0x0D, 0x0A, 0xDE, 0xE7, 0x0D, 0x0A]
  ∧ buildAck 0x7878 0x78 = [0x78, 0x78, 0x05, 0x78, 0x78, 0x78, 0x15, 0x58, 0x0D, 0x0A]
  ∧ buildAck 0x0000 0x01 = [0x78, 0x78, 0x05, 0x01, 0x00, 0x00, 0xC8, 0x55, 0x0D, 0x0A]
  ∧ buildAck 0xFFFF 0xFF = [0x78, 0x78, 0x05, 0xFF, 0xFF, 0xFF, 0xA4, 0xC2, 0x0D, 0x0A]
  ∧ buildAck 0x0007 0x16 = [0x78, 0x78, 0x05, 0x16, 0x00, 0x07, 0xB5, 0x7A, 0x0D, 0x0A]
  ∧ buildAck 0x1234 0x19 = [0x78, 0x78, 0x05, 0x19, 0x12, 0x34, 0x5A, 0x84, 0x0D, 0x0A]

/-- R188: an acknowledgement on request, whatever ACK_SET, CTRL and HALTED say, and nothing else changes. -/
def Obligations.AckOnRequest : Prop :=
  ∀ (ignored p : Byte) (serial : Half) (s : State),
    exec (.ackReq p serial) s = .next { s with ackq := s.ackq ++ [buildAck serial p] }
    ∧ exec (.csrWrite 0x34 (ignored ++ p ++ serial)) s = exec (.ackReq p serial) s

/-- The ACK row (R63, R185; evaluated as the pure builder, the model's choice: log 3): the value returned is the ten bytes, and nothing
else changes; for a well-formed ACK word they are the word's own bytes. -/
def Obligations.AckRowIsTheBuilder : Prop :=
  ∀ (p : Byte) (serial crc : Half) (s : State),
    exec (.ack p serial crc) s = .next { s with result := .built (buildAck serial p) }
    ∧ (wellFormed (.ack p serial crc) = true → ∃ f, encode (.ack p serial crc) = .port (.ack f) ∧ f.toNat = BE (buildAck serial p))

/-! Events and host operations. -/

/-- R216 with the table of R215: an event sets its flag, records its code and offset if it has a code, counts in its class, and does
nothing else. -/
def Obligations.EventEffect : Prop :=
  ∀ (o : Word) (s : State), ∀ row ∈ eventTable,
    raiseEvent row.1 o s = { s with
      status := (raiseEvent row.1 o s).status
      lastErr := row.2.2.1.getD s.lastErr
      lastOff := if row.2.2.1 = none then s.lastOff else o
      cntFramErr := if row.2.2.2.1 then s.cntFramErr + 1 else s.cntFramErr
      cntCrcErr := if row.2.2.2.2 then s.cntCrcErr + 1 else s.cntCrcErr }
    ∧ ∀ k < 9, (raiseEvent row.1 o s).status.getLsbD k = (k == row.2.1 || s.status.getLsbD k)

/-- R195: what a CSR read returns at every offset; no block state changes. -/
def Obligations.CsrReadMap : Prop :=
  ∀ (a : Byte) (s : State), s.acc.length ≤ cfg.accCap → ∃ w, exec (.csrRead a) s = .next { s with result := .word w }
    ∧ (a = 0x00 → w = 0x46564531)
    ∧ (a = 0x04 → w.getLsbD 0 = s.crcEnforce ∧ w.getLsbD 1 = s.ackEn ∧ ∀ k, 2 ≤ k → w.getLsbD k = false)
    ∧ (a = 0x08 → (∀ k < 9, w.getLsbD k = s.status.getLsbD k) ∧ (∀ k, 9 ≤ k → k < 31 → w.getLsbD k = false)
        ∧ w.getLsbD 31 = s.halted)
    ∧ (a = 0x0C → w.toNat = s.acc.length) ∧ (a = 0x10 → w = s.head) ∧ (a = 0x14 → w = s.cntFrames)
    ∧ (a = 0x18 → w = s.cntDropped) ∧ (a = 0x1C → w = s.cntFramErr) ∧ (a = 0x20 → w = s.cntCrcErr)
    ∧ (a = 0x24 → (w.getLsbD 0 = true ↔ s.recq ≠ []) ∧ (w.getLsbD 1 = true ↔ s.ackq ≠ []) ∧ ∀ k, 2 ≤ k → w.getLsbD k = false)
    ∧ (a = 0x30 → w.toNat = (s.crcReg ^^^ 0xFFFF).toNat) ∧ (a = 0x38 → w.toNat = s.lastErr.toNat) ∧ (a = 0x3C → w = s.lastOff)
    ∧ (a = 0x28 ∨ a = 0x2C ∨ a = 0x34 ∨ 0x40 ≤ a.toNat ∨ a.toNat % 4 ≠ 0 → w = 0)

/-- R196: what a CSR write does at every offset. -/
def Obligations.CsrWriteMap : Prop :=
  ∀ (a : Byte) (v : Word) (s : State), ∃ t, exec (.csrWrite a v) s = .next t
    ∧ (a = 0x04 → t = { s with crcEnforce := v.getLsbD 0, ackEn := v.getLsbD 1 })
    ∧ (a = 0x08 → t = { s with status := t.status } ∧ ∀ k < 9, t.status.getLsbD k = (s.status.getLsbD k && !v.getLsbD k))
    ∧ (a = 0x28 → v = 1 → exec .cmdFlush s = .next t) ∧ (a = 0x28 → v = 2 → exec .cmdSreset s = .next t)
    ∧ (a = 0x28 → v = 3 → exec .cmdCrcInit s = .next t) ∧ (a = 0x28 → v = 4 → exec .cmdPopRec s = .next t)
    ∧ (a = 0x28 → v = 5 → exec .cmdPopAck s = .next t)
    ∧ (a = 0x28 → (v.extractLsb' 8 24 ≠ 0 ∨ v.extractLsb' 0 8 = 0 ∨ 6 ≤ (v.extractLsb' 0 8).toNat) → t = s)
    ∧ (a = 0x2C → exec (.crcData (v.extractLsb' 0 8)) s = .next t)
    ∧ (a = 0x34 → exec (.ackReq (v.extractLsb' 16 8) (v.extractLsb' 0 16)) s = .next t)
    ∧ (a ≠ 0x04 → a ≠ 0x08 → a ≠ 0x28 → a ≠ 0x2C → a ≠ 0x34 → t = s)

/-- R197, R199, R200, R201: FLUSH, CRC_INIT and the two pops; a pop on an empty queue does nothing. -/
def Obligations.Commands : Prop :=
  ∀ s : State,
    exec .cmdFlush s = .next { s with acc := [], head := 0, halted := false, ackq := [] }
    ∧ exec .cmdCrcInit s = .next { s with crcReg := 0xFFFF }
    ∧ exec .cmdPopRec s = .next { s with recq := s.recq.drop 1 }
    ∧ exec .cmdPopAck s = .next { s with ackq := s.ackq.drop 1 }
    ∧ (s.recq = [] → exec .cmdPopRec s = .next s) ∧ (s.ackq = [] → exec .cmdPopAck s = .next s)

/-- R198, R240: HRESET and CMD.SRESET are one transition, from every state to the reset values, and idempotent. -/
def Obligations.ResetTransition : Prop :=
  ∀ s : State, exec .cmdSreset s = exec .hreset s ∧ ∃ t, exec .hreset s = .next t
    ∧ t.acc = [] ∧ t.head = 0 ∧ t.halted = false ∧ t.crcEnforce = false ∧ t.ackEn = true ∧ t.status = 0
    ∧ t.lastErr = 0 ∧ t.lastOff = 0 ∧ t.cntFrames = 0 ∧ t.cntDropped = 0 ∧ t.cntFramErr = 0 ∧ t.cntCrcErr = 0
    ∧ t.crcReg = 0xFFFF ∧ t.recq = [] ∧ t.ackq = []
    ∧ exec .hreset t = .next t

/-- The model's own two fields across a reset (log 1, log 2): the host's pending operations and what it last read stay. -/
def Obligations.ResetKeepsTheHostsFields : Prop :=
  ∀ s : State, ∃ t, exec .hreset s = .next t ∧ t.inbox = s.inbox ∧ t.result = s.result

/-- R202, R203: the heads of the two queues are returned, or none, and nothing else changes; an acknowledgement returned in a good
state is ten bytes. -/
def Obligations.PeeksReturnTheHeads : Prop :=
  ∀ s : State,
    exec .recPeek s = .next { s with result := .record s.recq.head? }
    ∧ exec .ackPeek s = .next { s with result := .ackFrame s.ackq.head? }
    ∧ (s.recq.head? = none ↔ (qstatWord s).getLsbD 0 = false) ∧ (s.ackq.head? = none ↔ (qstatWord s).getLsbD 1 = false)
    ∧ (stateOk s = true → ∀ f, s.ackq.head? = some f → f.length = 10)

end
end

