-- ==== Sys2Proof/Laws/State.lean ====
section
/-! SUPPORT. One lemma per field per named update of the state (the package's simp set for state records). -/

namespace Sys2Proof.Machine

section append
variable (s : State) (b : Byte)
@[simp] theorem append_acc : (append b s).acc = s.acc ++ [b] := rfl
@[simp] theorem append_head : (append b s).head = s.head := rfl
@[simp] theorem append_halted : (append b s).halted = s.halted := rfl
@[simp] theorem append_crcEnforce : (append b s).crcEnforce = s.crcEnforce := rfl
@[simp] theorem append_ackEn : (append b s).ackEn = s.ackEn := rfl
@[simp] theorem append_status : (append b s).status = s.status := rfl
@[simp] theorem append_lastErr : (append b s).lastErr = s.lastErr := rfl
@[simp] theorem append_lastOff : (append b s).lastOff = s.lastOff := rfl
@[simp] theorem append_cntFrames : (append b s).cntFrames = s.cntFrames := rfl
@[simp] theorem append_cntDropped : (append b s).cntDropped = s.cntDropped := rfl
@[simp] theorem append_cntFramErr : (append b s).cntFramErr = s.cntFramErr := rfl
@[simp] theorem append_cntCrcErr : (append b s).cntCrcErr = s.cntCrcErr := rfl
@[simp] theorem append_crcReg : (append b s).crcReg = s.crcReg := rfl
@[simp] theorem append_recq : (append b s).recq = s.recq := rfl
@[simp] theorem append_ackq : (append b s).ackq = s.ackq := rfl
@[simp] theorem append_inbox : (append b s).inbox = s.inbox := rfl
@[simp] theorem append_result : (append b s).result = s.result := rfl
end append

section drop
variable (s : State) (n : Nat)
@[simp] theorem drop_acc : (drop n s).acc = s.acc.drop n := rfl
@[simp] theorem drop_head : (drop n s).head = s.head + BitVec.ofNat 32 n := rfl
@[simp] theorem drop_halted : (drop n s).halted = s.halted := rfl
@[simp] theorem drop_crcEnforce : (drop n s).crcEnforce = s.crcEnforce := rfl
@[simp] theorem drop_ackEn : (drop n s).ackEn = s.ackEn := rfl
@[simp] theorem drop_status : (drop n s).status = s.status := rfl
@[simp] theorem drop_lastErr : (drop n s).lastErr = s.lastErr := rfl
@[simp] theorem drop_lastOff : (drop n s).lastOff = s.lastOff := rfl
@[simp] theorem drop_cntFrames : (drop n s).cntFrames = s.cntFrames := rfl
@[simp] theorem drop_cntDropped : (drop n s).cntDropped = s.cntDropped := rfl
@[simp] theorem drop_cntFramErr : (drop n s).cntFramErr = s.cntFramErr := rfl
@[simp] theorem drop_cntCrcErr : (drop n s).cntCrcErr = s.cntCrcErr := rfl
@[simp] theorem drop_crcReg : (drop n s).crcReg = s.crcReg := rfl
@[simp] theorem drop_recq : (drop n s).recq = s.recq := rfl
@[simp] theorem drop_ackq : (drop n s).ackq = s.ackq := rfl
@[simp] theorem drop_inbox : (drop n s).inbox = s.inbox := rfl
@[simp] theorem drop_result : (drop n s).result = s.result := rfl
end drop

section discard
variable (s : State) (n : Nat)
@[simp] theorem discard_acc : (discard n s).acc = s.acc.drop n := rfl
@[simp] theorem discard_head : (discard n s).head = s.head + BitVec.ofNat 32 n := rfl
@[simp] theorem discard_halted : (discard n s).halted = s.halted := rfl
@[simp] theorem discard_crcEnforce : (discard n s).crcEnforce = s.crcEnforce := rfl
@[simp] theorem discard_ackEn : (discard n s).ackEn = s.ackEn := rfl
@[simp] theorem discard_status : (discard n s).status = s.status := rfl
@[simp] theorem discard_lastErr : (discard n s).lastErr = s.lastErr := rfl
@[simp] theorem discard_lastOff : (discard n s).lastOff = s.lastOff := rfl
@[simp] theorem discard_cntFrames : (discard n s).cntFrames = s.cntFrames := rfl
@[simp] theorem discard_cntDropped : (discard n s).cntDropped = s.cntDropped + BitVec.ofNat 32 n := rfl
@[simp] theorem discard_cntFramErr : (discard n s).cntFramErr = s.cntFramErr := rfl
@[simp] theorem discard_cntCrcErr : (discard n s).cntCrcErr = s.cntCrcErr := rfl
@[simp] theorem discard_crcReg : (discard n s).crcReg = s.crcReg := rfl
@[simp] theorem discard_recq : (discard n s).recq = s.recq := rfl
@[simp] theorem discard_ackq : (discard n s).ackq = s.ackq := rfl
@[simp] theorem discard_inbox : (discard n s).inbox = s.inbox := rfl
@[simp] theorem discard_result : (discard n s).result = s.result := rfl
end discard

section takeFrame
variable (s : State) (n : Nat)
@[simp] theorem takeFrame_acc : (takeFrame n s).acc = s.acc.drop n := rfl
@[simp] theorem takeFrame_head : (takeFrame n s).head = s.head + BitVec.ofNat 32 n := rfl
@[simp] theorem takeFrame_halted : (takeFrame n s).halted = s.halted := rfl
@[simp] theorem takeFrame_crcEnforce : (takeFrame n s).crcEnforce = s.crcEnforce := rfl
@[simp] theorem takeFrame_ackEn : (takeFrame n s).ackEn = s.ackEn := rfl
@[simp] theorem takeFrame_status : (takeFrame n s).status = s.status := rfl
@[simp] theorem takeFrame_lastErr : (takeFrame n s).lastErr = s.lastErr := rfl
@[simp] theorem takeFrame_lastOff : (takeFrame n s).lastOff = s.lastOff := rfl
@[simp] theorem takeFrame_cntFrames : (takeFrame n s).cntFrames = s.cntFrames + 1 := rfl
@[simp] theorem takeFrame_cntDropped : (takeFrame n s).cntDropped = s.cntDropped := rfl
@[simp] theorem takeFrame_cntFramErr : (takeFrame n s).cntFramErr = s.cntFramErr := rfl
@[simp] theorem takeFrame_cntCrcErr : (takeFrame n s).cntCrcErr = s.cntCrcErr := rfl
@[simp] theorem takeFrame_crcReg : (takeFrame n s).crcReg = s.crcReg := rfl
@[simp] theorem takeFrame_recq : (takeFrame n s).recq = s.recq := rfl
@[simp] theorem takeFrame_ackq : (takeFrame n s).ackq = s.ackq := rfl
@[simp] theorem takeFrame_inbox : (takeFrame n s).inbox = s.inbox := rfl
@[simp] theorem takeFrame_result : (takeFrame n s).result = s.result := rfl
end takeFrame

section raiseEvent
variable (s : State) (e : Event) (o : Word)
@[simp] theorem raiseEvent_acc : (raiseEvent e o s).acc = s.acc := rfl
@[simp] theorem raiseEvent_head : (raiseEvent e o s).head = s.head := rfl
@[simp] theorem raiseEvent_halted : (raiseEvent e o s).halted = s.halted := rfl
@[simp] theorem raiseEvent_crcEnforce : (raiseEvent e o s).crcEnforce = s.crcEnforce := rfl
@[simp] theorem raiseEvent_ackEn : (raiseEvent e o s).ackEn = s.ackEn := rfl
@[simp] theorem raiseEvent_status : (raiseEvent e o s).status = setFlag e s.status := rfl
@[simp] theorem raiseEvent_lastErr : (raiseEvent e o s).lastErr = (eventCode e).getD s.lastErr := rfl
@[simp] theorem raiseEvent_lastOff : (raiseEvent e o s).lastOff = if (eventCode e).isSome then o else s.lastOff := rfl
@[simp] theorem raiseEvent_cntFrames : (raiseEvent e o s).cntFrames = s.cntFrames := rfl
@[simp] theorem raiseEvent_cntDropped : (raiseEvent e o s).cntDropped = s.cntDropped := rfl
@[simp] theorem raiseEvent_cntFramErr : (raiseEvent e o s).cntFramErr = if eventIsFraming e then s.cntFramErr + 1 else s.cntFramErr := rfl
@[simp] theorem raiseEvent_cntCrcErr : (raiseEvent e o s).cntCrcErr = if e = .crcErr then s.cntCrcErr + 1 else s.cntCrcErr := rfl
@[simp] theorem raiseEvent_crcReg : (raiseEvent e o s).crcReg = s.crcReg := rfl
@[simp] theorem raiseEvent_recq : (raiseEvent e o s).recq = s.recq := rfl
@[simp] theorem raiseEvent_ackq : (raiseEvent e o s).ackq = s.ackq := rfl
@[simp] theorem raiseEvent_inbox : (raiseEvent e o s).inbox = s.inbox := rfl
@[simp] theorem raiseEvent_result : (raiseEvent e o s).result = s.result := rfl
end raiseEvent

section clearEvents
variable (s : State) (v : Word)
@[simp] theorem clearEvents_acc : (clearEvents v s).acc = s.acc := rfl
@[simp] theorem clearEvents_head : (clearEvents v s).head = s.head := rfl
@[simp] theorem clearEvents_halted : (clearEvents v s).halted = s.halted := rfl
@[simp] theorem clearEvents_crcEnforce : (clearEvents v s).crcEnforce = s.crcEnforce := rfl
@[simp] theorem clearEvents_ackEn : (clearEvents v s).ackEn = s.ackEn := rfl
@[simp] theorem clearEvents_status : (clearEvents v s).status = clearFlags s.status v := rfl
@[simp] theorem clearEvents_lastErr : (clearEvents v s).lastErr = s.lastErr := rfl
@[simp] theorem clearEvents_lastOff : (clearEvents v s).lastOff = s.lastOff := rfl
@[simp] theorem clearEvents_cntFrames : (clearEvents v s).cntFrames = s.cntFrames := rfl
@[simp] theorem clearEvents_cntDropped : (clearEvents v s).cntDropped = s.cntDropped := rfl
@[simp] theorem clearEvents_cntFramErr : (clearEvents v s).cntFramErr = s.cntFramErr := rfl
@[simp] theorem clearEvents_cntCrcErr : (clearEvents v s).cntCrcErr = s.cntCrcErr := rfl
@[simp] theorem clearEvents_crcReg : (clearEvents v s).crcReg = s.crcReg := rfl
@[simp] theorem clearEvents_recq : (clearEvents v s).recq = s.recq := rfl
@[simp] theorem clearEvents_ackq : (clearEvents v s).ackq = s.ackq := rfl
@[simp] theorem clearEvents_inbox : (clearEvents v s).inbox = s.inbox := rfl
@[simp] theorem clearEvents_result : (clearEvents v s).result = s.result := rfl
end clearEvents

section overflow
variable (s : State)
@[simp] theorem overflow_acc : (overflow s).acc = s.acc := rfl
@[simp] theorem overflow_head : (overflow s).head = s.head := rfl
@[simp] theorem overflow_halted : (overflow s).halted = true := rfl
@[simp] theorem overflow_crcEnforce : (overflow s).crcEnforce = s.crcEnforce := rfl
@[simp] theorem overflow_ackEn : (overflow s).ackEn = s.ackEn := rfl
@[simp] theorem overflow_status : (overflow s).status = setFlag .ovf s.status := rfl
@[simp] theorem overflow_lastErr : (overflow s).lastErr = 6 := rfl
@[simp] theorem overflow_lastOff : (overflow s).lastOff = s.head + BitVec.ofNat 32 s.acc.length := rfl
@[simp] theorem overflow_cntFrames : (overflow s).cntFrames = s.cntFrames := rfl
@[simp] theorem overflow_cntDropped : (overflow s).cntDropped = s.cntDropped := rfl
@[simp] theorem overflow_cntFramErr : (overflow s).cntFramErr = s.cntFramErr := rfl
@[simp] theorem overflow_cntCrcErr : (overflow s).cntCrcErr = s.cntCrcErr := rfl
@[simp] theorem overflow_crcReg : (overflow s).crcReg = s.crcReg := rfl
@[simp] theorem overflow_recq : (overflow s).recq = s.recq := rfl
@[simp] theorem overflow_ackq : (overflow s).ackq = s.ackq := rfl
@[simp] theorem overflow_inbox : (overflow s).inbox = s.inbox := rfl
@[simp] theorem overflow_result : (overflow s).result = s.result := rfl
end overflow

section pushRec
variable (s : State) (r : Record)
@[simp] theorem pushRec_acc : (pushRec r s).acc = s.acc := rfl
@[simp] theorem pushRec_head : (pushRec r s).head = s.head := rfl
@[simp] theorem pushRec_halted : (pushRec r s).halted = s.halted := rfl
@[simp] theorem pushRec_crcEnforce : (pushRec r s).crcEnforce = s.crcEnforce := rfl
@[simp] theorem pushRec_ackEn : (pushRec r s).ackEn = s.ackEn := rfl
@[simp] theorem pushRec_status : (pushRec r s).status = s.status := rfl
@[simp] theorem pushRec_lastErr : (pushRec r s).lastErr = s.lastErr := rfl
@[simp] theorem pushRec_lastOff : (pushRec r s).lastOff = s.lastOff := rfl
@[simp] theorem pushRec_cntFrames : (pushRec r s).cntFrames = s.cntFrames := rfl
@[simp] theorem pushRec_cntDropped : (pushRec r s).cntDropped = s.cntDropped := rfl
@[simp] theorem pushRec_cntFramErr : (pushRec r s).cntFramErr = s.cntFramErr := rfl
@[simp] theorem pushRec_cntCrcErr : (pushRec r s).cntCrcErr = s.cntCrcErr := rfl
@[simp] theorem pushRec_crcReg : (pushRec r s).crcReg = s.crcReg := rfl
@[simp] theorem pushRec_recq : (pushRec r s).recq = s.recq ++ [r] := rfl
@[simp] theorem pushRec_ackq : (pushRec r s).ackq = s.ackq := rfl
@[simp] theorem pushRec_inbox : (pushRec r s).inbox = s.inbox := rfl
@[simp] theorem pushRec_result : (pushRec r s).result = s.result := rfl
end pushRec

section pushAck
variable (s : State) (f : List Byte)
@[simp] theorem pushAck_acc : (pushAck f s).acc = s.acc := rfl
@[simp] theorem pushAck_head : (pushAck f s).head = s.head := rfl
@[simp] theorem pushAck_halted : (pushAck f s).halted = s.halted := rfl
@[simp] theorem pushAck_crcEnforce : (pushAck f s).crcEnforce = s.crcEnforce := rfl
@[simp] theorem pushAck_ackEn : (pushAck f s).ackEn = s.ackEn := rfl
@[simp] theorem pushAck_status : (pushAck f s).status = s.status := rfl
@[simp] theorem pushAck_lastErr : (pushAck f s).lastErr = s.lastErr := rfl
@[simp] theorem pushAck_lastOff : (pushAck f s).lastOff = s.lastOff := rfl
@[simp] theorem pushAck_cntFrames : (pushAck f s).cntFrames = s.cntFrames := rfl
@[simp] theorem pushAck_cntDropped : (pushAck f s).cntDropped = s.cntDropped := rfl
@[simp] theorem pushAck_cntFramErr : (pushAck f s).cntFramErr = s.cntFramErr := rfl
@[simp] theorem pushAck_cntCrcErr : (pushAck f s).cntCrcErr = s.cntCrcErr := rfl
@[simp] theorem pushAck_crcReg : (pushAck f s).crcReg = s.crcReg := rfl
@[simp] theorem pushAck_recq : (pushAck f s).recq = s.recq := rfl
@[simp] theorem pushAck_ackq : (pushAck f s).ackq = s.ackq ++ [f] := rfl
@[simp] theorem pushAck_inbox : (pushAck f s).inbox = s.inbox := rfl
@[simp] theorem pushAck_result : (pushAck f s).result = s.result := rfl
end pushAck

section popRec
variable (s : State)
@[simp] theorem popRec_acc : (popRec s).acc = s.acc := rfl
@[simp] theorem popRec_head : (popRec s).head = s.head := rfl
@[simp] theorem popRec_halted : (popRec s).halted = s.halted := rfl
@[simp] theorem popRec_crcEnforce : (popRec s).crcEnforce = s.crcEnforce := rfl
@[simp] theorem popRec_ackEn : (popRec s).ackEn = s.ackEn := rfl
@[simp] theorem popRec_status : (popRec s).status = s.status := rfl
@[simp] theorem popRec_lastErr : (popRec s).lastErr = s.lastErr := rfl
@[simp] theorem popRec_lastOff : (popRec s).lastOff = s.lastOff := rfl
@[simp] theorem popRec_cntFrames : (popRec s).cntFrames = s.cntFrames := rfl
@[simp] theorem popRec_cntDropped : (popRec s).cntDropped = s.cntDropped := rfl
@[simp] theorem popRec_cntFramErr : (popRec s).cntFramErr = s.cntFramErr := rfl
@[simp] theorem popRec_cntCrcErr : (popRec s).cntCrcErr = s.cntCrcErr := rfl
@[simp] theorem popRec_crcReg : (popRec s).crcReg = s.crcReg := rfl
@[simp] theorem popRec_recq : (popRec s).recq = s.recq.tail := rfl
@[simp] theorem popRec_ackq : (popRec s).ackq = s.ackq := rfl
@[simp] theorem popRec_inbox : (popRec s).inbox = s.inbox := rfl
@[simp] theorem popRec_result : (popRec s).result = s.result := rfl
end popRec

section popAck
variable (s : State)
@[simp] theorem popAck_acc : (popAck s).acc = s.acc := rfl
@[simp] theorem popAck_head : (popAck s).head = s.head := rfl
@[simp] theorem popAck_halted : (popAck s).halted = s.halted := rfl
@[simp] theorem popAck_crcEnforce : (popAck s).crcEnforce = s.crcEnforce := rfl
@[simp] theorem popAck_ackEn : (popAck s).ackEn = s.ackEn := rfl
@[simp] theorem popAck_status : (popAck s).status = s.status := rfl
@[simp] theorem popAck_lastErr : (popAck s).lastErr = s.lastErr := rfl
@[simp] theorem popAck_lastOff : (popAck s).lastOff = s.lastOff := rfl
@[simp] theorem popAck_cntFrames : (popAck s).cntFrames = s.cntFrames := rfl
@[simp] theorem popAck_cntDropped : (popAck s).cntDropped = s.cntDropped := rfl
@[simp] theorem popAck_cntFramErr : (popAck s).cntFramErr = s.cntFramErr := rfl
@[simp] theorem popAck_cntCrcErr : (popAck s).cntCrcErr = s.cntCrcErr := rfl
@[simp] theorem popAck_crcReg : (popAck s).crcReg = s.crcReg := rfl
@[simp] theorem popAck_recq : (popAck s).recq = s.recq := rfl
@[simp] theorem popAck_ackq : (popAck s).ackq = s.ackq.tail := rfl
@[simp] theorem popAck_inbox : (popAck s).inbox = s.inbox := rfl
@[simp] theorem popAck_result : (popAck s).result = s.result := rfl
end popAck

section flush
variable (s : State)
@[simp] theorem flush_acc : (flush s).acc = [] := rfl
@[simp] theorem flush_head : (flush s).head = 0 := rfl
@[simp] theorem flush_halted : (flush s).halted = false := rfl
@[simp] theorem flush_crcEnforce : (flush s).crcEnforce = s.crcEnforce := rfl
@[simp] theorem flush_ackEn : (flush s).ackEn = s.ackEn := rfl
@[simp] theorem flush_status : (flush s).status = s.status := rfl
@[simp] theorem flush_lastErr : (flush s).lastErr = s.lastErr := rfl
@[simp] theorem flush_lastOff : (flush s).lastOff = s.lastOff := rfl
@[simp] theorem flush_cntFrames : (flush s).cntFrames = s.cntFrames := rfl
@[simp] theorem flush_cntDropped : (flush s).cntDropped = s.cntDropped := rfl
@[simp] theorem flush_cntFramErr : (flush s).cntFramErr = s.cntFramErr := rfl
@[simp] theorem flush_cntCrcErr : (flush s).cntCrcErr = s.cntCrcErr := rfl
@[simp] theorem flush_crcReg : (flush s).crcReg = s.crcReg := rfl
@[simp] theorem flush_recq : (flush s).recq = s.recq := rfl
@[simp] theorem flush_ackq : (flush s).ackq = [] := rfl
@[simp] theorem flush_inbox : (flush s).inbox = s.inbox := rfl
@[simp] theorem flush_result : (flush s).result = s.result := rfl
end flush

section crcRestart
variable (s : State)
@[simp] theorem crcRestart_acc : (crcRestart s).acc = s.acc := rfl
@[simp] theorem crcRestart_head : (crcRestart s).head = s.head := rfl
@[simp] theorem crcRestart_halted : (crcRestart s).halted = s.halted := rfl
@[simp] theorem crcRestart_crcEnforce : (crcRestart s).crcEnforce = s.crcEnforce := rfl
@[simp] theorem crcRestart_ackEn : (crcRestart s).ackEn = s.ackEn := rfl
@[simp] theorem crcRestart_status : (crcRestart s).status = s.status := rfl
@[simp] theorem crcRestart_lastErr : (crcRestart s).lastErr = s.lastErr := rfl
@[simp] theorem crcRestart_lastOff : (crcRestart s).lastOff = s.lastOff := rfl
@[simp] theorem crcRestart_cntFrames : (crcRestart s).cntFrames = s.cntFrames := rfl
@[simp] theorem crcRestart_cntDropped : (crcRestart s).cntDropped = s.cntDropped := rfl
@[simp] theorem crcRestart_cntFramErr : (crcRestart s).cntFramErr = s.cntFramErr := rfl
@[simp] theorem crcRestart_cntCrcErr : (crcRestart s).cntCrcErr = s.cntCrcErr := rfl
@[simp] theorem crcRestart_crcReg : (crcRestart s).crcReg = crcInit := rfl
@[simp] theorem crcRestart_recq : (crcRestart s).recq = s.recq := rfl
@[simp] theorem crcRestart_ackq : (crcRestart s).ackq = s.ackq := rfl
@[simp] theorem crcRestart_inbox : (crcRestart s).inbox = s.inbox := rfl
@[simp] theorem crcRestart_result : (crcRestart s).result = s.result := rfl
end crcRestart

section crcFeed
variable (s : State) (b : Byte)
@[simp] theorem crcFeed_acc : (crcFeed b s).acc = s.acc := rfl
@[simp] theorem crcFeed_head : (crcFeed b s).head = s.head := rfl
@[simp] theorem crcFeed_halted : (crcFeed b s).halted = s.halted := rfl
@[simp] theorem crcFeed_crcEnforce : (crcFeed b s).crcEnforce = s.crcEnforce := rfl
@[simp] theorem crcFeed_ackEn : (crcFeed b s).ackEn = s.ackEn := rfl
@[simp] theorem crcFeed_status : (crcFeed b s).status = s.status := rfl
@[simp] theorem crcFeed_lastErr : (crcFeed b s).lastErr = s.lastErr := rfl
@[simp] theorem crcFeed_lastOff : (crcFeed b s).lastOff = s.lastOff := rfl
@[simp] theorem crcFeed_cntFrames : (crcFeed b s).cntFrames = s.cntFrames := rfl
@[simp] theorem crcFeed_cntDropped : (crcFeed b s).cntDropped = s.cntDropped := rfl
@[simp] theorem crcFeed_cntFramErr : (crcFeed b s).cntFramErr = s.cntFramErr := rfl
@[simp] theorem crcFeed_cntCrcErr : (crcFeed b s).cntCrcErr = s.cntCrcErr := rfl
@[simp] theorem crcFeed_crcReg : (crcFeed b s).crcReg = crcByte s.crcReg b := rfl
@[simp] theorem crcFeed_recq : (crcFeed b s).recq = s.recq := rfl
@[simp] theorem crcFeed_ackq : (crcFeed b s).ackq = s.ackq := rfl
@[simp] theorem crcFeed_inbox : (crcFeed b s).inbox = s.inbox := rfl
@[simp] theorem crcFeed_result : (crcFeed b s).result = s.result := rfl
end crcFeed

section answer
variable (s : State) (r : Result)
@[simp] theorem answer_acc : (answer r s).acc = s.acc := rfl
@[simp] theorem answer_head : (answer r s).head = s.head := rfl
@[simp] theorem answer_halted : (answer r s).halted = s.halted := rfl
@[simp] theorem answer_crcEnforce : (answer r s).crcEnforce = s.crcEnforce := rfl
@[simp] theorem answer_ackEn : (answer r s).ackEn = s.ackEn := rfl
@[simp] theorem answer_status : (answer r s).status = s.status := rfl
@[simp] theorem answer_lastErr : (answer r s).lastErr = s.lastErr := rfl
@[simp] theorem answer_lastOff : (answer r s).lastOff = s.lastOff := rfl
@[simp] theorem answer_cntFrames : (answer r s).cntFrames = s.cntFrames := rfl
@[simp] theorem answer_cntDropped : (answer r s).cntDropped = s.cntDropped := rfl
@[simp] theorem answer_cntFramErr : (answer r s).cntFramErr = s.cntFramErr := rfl
@[simp] theorem answer_cntCrcErr : (answer r s).cntCrcErr = s.cntCrcErr := rfl
@[simp] theorem answer_crcReg : (answer r s).crcReg = s.crcReg := rfl
@[simp] theorem answer_recq : (answer r s).recq = s.recq := rfl
@[simp] theorem answer_ackq : (answer r s).ackq = s.ackq := rfl
@[simp] theorem answer_inbox : (answer r s).inbox = s.inbox := rfl
@[simp] theorem answer_result : (answer r s).result = r := rfl
end answer

section resetBlock
variable (s : State)
@[simp] theorem resetBlock_acc : (resetBlock s).acc = [] := rfl
@[simp] theorem resetBlock_head : (resetBlock s).head = 0 := rfl
@[simp] theorem resetBlock_halted : (resetBlock s).halted = false := rfl
@[simp] theorem resetBlock_crcEnforce : (resetBlock s).crcEnforce = false := rfl
@[simp] theorem resetBlock_ackEn : (resetBlock s).ackEn = true := rfl
@[simp] theorem resetBlock_status : (resetBlock s).status = 0 := rfl
@[simp] theorem resetBlock_lastErr : (resetBlock s).lastErr = 0 := rfl
@[simp] theorem resetBlock_lastOff : (resetBlock s).lastOff = 0 := rfl
@[simp] theorem resetBlock_cntFrames : (resetBlock s).cntFrames = 0 := rfl
@[simp] theorem resetBlock_cntDropped : (resetBlock s).cntDropped = 0 := rfl
@[simp] theorem resetBlock_cntFramErr : (resetBlock s).cntFramErr = 0 := rfl
@[simp] theorem resetBlock_cntCrcErr : (resetBlock s).cntCrcErr = 0 := rfl
@[simp] theorem resetBlock_crcReg : (resetBlock s).crcReg = 0xFFFF := rfl
@[simp] theorem resetBlock_recq : (resetBlock s).recq = [] := rfl
@[simp] theorem resetBlock_ackq : (resetBlock s).ackq = [] := rfl
@[simp] theorem resetBlock_inbox : (resetBlock s).inbox = s.inbox := rfl
@[simp] theorem resetBlock_result : (resetBlock s).result = s.result := rfl
end resetBlock

end Sys2Proof.Machine
end

