-- ==== Sys2Proof/Laws/Ops.lean ====
section
/-! SUPPORT. One lemma per shared operation that says what it can do. -/

namespace Sys2Proof.Machine

/-! The accumulator. -/

theorem memByte_drop (acc : List Byte) (n i : Nat) : memByte (acc.drop n) i = memByte acc (n + i) := by
  simp [memByte, List.getElem?_drop]

theorem memByte_append_of_lt (acc : List Byte) (b : Byte) (i : Nat) (h : i < acc.length) :
    memByte (acc ++ [b]) i = memByte acc i := by
  simp [memByte, List.getElem?_append_left h]

theorem memByte_append_at_end (acc : List Byte) (b : Byte) : memByte (acc ++ [b]) acc.length = some b := by
  simp [memByte]

theorem memByte_eq_none_iff (acc : List Byte) (i : Nat) : memByte acc i = none ↔ acc.length ≤ i := by
  simp [memByte]

theorem memRead_eq_some_iff (acc : List Byte) (i n : Nat) (bytes : List Byte) :
    memRead acc i n = some bytes ↔ i + n ≤ acc.length ∧ bytes = (acc.drop i).take n := by
  unfold memRead
  split <;> simp_all [eq_comm]

theorem memWf_iff (acc : List Byte) : memWf acc = true ↔ acc.length ≤ cfg.accCap := by simp [memWf]

/-- The append keeps the capacity wherever R41 allows it. -/
theorem memWf_append (acc : List Byte) (b : Byte) (h : memWf acc = true) (hne : acc.length ≠ cfg.accCap) :
    memWf (acc ++ [b]) = true := by
  rw [memWf_iff] at *
  simp only [List.length_append, List.length_cons, List.length_nil]
  omega

theorem memWf_drop (acc : List Byte) (n : Nat) (h : memWf acc = true) : memWf (acc.drop n) = true := by
  rw [memWf_iff] at *
  simp only [List.length_drop]
  omega

theorem memWf_nil : memWf [] = true := by simp [memWf]

theorem memWf_reset : memWf State.reset.acc = true := memWf_nil

/-- The indices of ACC's cells are 0, 1, 2, ... (log 5): strictly rising, each index once. -/
theorem memCells_indices (acc : List Byte) : (memCells acc).map Prod.fst = List.range acc.length := by
  rw [memCells, List.map_map, show (Prod.fst ∘ fun c : Byte × Nat => (c.2, c.1)) = Prod.snd from rfl, List.zipIdx_map_snd,
    List.range_eq_range']

/-- Equal cells are equal accumulators. -/
theorem memCells_injective (a b : List Byte) (h : memCells a = memCells b) : a = b := by
  have key (l : List Byte) : (memCells l).map Prod.snd = l := by
    rw [memCells, List.map_map, show (Prod.snd ∘ fun c : Byte × Nat => (c.2, c.1)) = Prod.fst from rfl, List.zipIdx_map_fst]
  rw [← key a, ← key b, h]

/-! Flags and events. -/

theorem flagOf_setFlag (e e' : Event) (st : BitVec 9) : flagOf e' (setFlag e st) = (decide (e' = e) || flagOf e' st) := by
  cases e <;> cases e' <;> simp [flagOf, setFlag, eventBit]

theorem flagOf_clearFlags (e : Event) (st : BitVec 9) (v : Word) :
    flagOf e (clearFlags st v) = (flagOf e st && !v.getLsbD (eventBit e)) := by
  cases e <;> simp [flagOf, clearFlags, eventBit]

theorem setFlag_idem (e : Event) (st : BitVec 9) : setFlag e (setFlag e st) = setFlag e st := by
  simp [setFlag, BitVec.or_assoc]

/-- An event without a code changes its flag and nothing else (R216). -/
theorem raiseEvent_of_no_code (e : Event) (o : Word) (s : State) (h : eventCode e = none) :
    raiseEvent e o s = { s with status := setFlag e s.status } := by
  cases e <;> simp_all [raiseEvent, eventCode, eventIsFraming]

theorem eventCode_le_six (e : Event) (c : BitVec 4) (h : eventCode e = some c) : c.toNat ≤ 6 := by
  cases e <;> simp [eventCode] at h <;> subst h <;> decide

/-! Fields. -/

theorem be_nil : be [] = 0 := rfl

theorem be_append_singleton (bytes : List Byte) (b : Byte) : be (bytes ++ [b]) = be bytes * 256 + b.toNat := by
  simp [be, List.foldl_append]

theorem be_lt (bytes : List Byte) : be bytes < 256 ^ bytes.length := by
  induction bytes using List.reverseRecOn with
  | nil => simp [be]
  | append_singleton bytes b ih =>
    have hb := b.isLt
    rw [be_append_singleton, List.length_append, List.length_singleton, Nat.pow_succ]
    omega

theorem field_lt (payload : List Byte) (o w : Nat) : field payload o w < 256 ^ w :=
  Nat.lt_of_lt_of_le (be_lt _) (Nat.pow_le_pow_right (by decide) (by simp [List.length_take]))

theorem present_iff (payload : List Byte) (o w : Nat) : present payload o w = true ↔ o + w ≤ payload.length := by
  simp [present]

theorem be16_toNat (a b : Byte) : (be16 a b).toNat = a.toNat * 256 + b.toNat := by
  have hor := Nat.two_pow_add_eq_or_of_lt b.isLt a.toNat
  rw [be16, BitVec.toNat_append, Nat.shiftLeft_eq, Nat.mul_comm]
  omega

theorem be16_hi_lo (w : Half) : be16 (hi8 w) (lo8 w) = w := by
  apply BitVec.eq_of_toNat_eq
  rw [be16_toNat, hi8, lo8, BitVec.extractLsb'_toNat, BitVec.extractLsb'_toNat, Nat.shiftRight_eq_div_pow, Nat.shiftRight_zero]
  omega

/-! The CRC. -/

theorem crcShifts_succ (n : Nat) (r : Half) : crcShifts (n + 1) r = crcShifts n (crcShift r) := by
  unfold crcShift
  rw [crcShifts]
  split <;> simp_all

theorem crcBytes_nil (r : Half) : crcBytes r [] = r := rfl

theorem crcBytes_cons (r : Half) (b : Byte) (bytes : List Byte) : crcBytes r (b :: bytes) = crcBytes (crcByte r b) bytes := rfl

/-! The frames' bytes. -/

theorem stdFrame_length (proto : Byte) (payload : List Byte) (serial checksum : Half) :
    (stdFrame proto payload serial checksum).length = payload.length + 10 := by
  simp [stdFrame, stdCovered]

theorem extFrame_length (proto : Byte) (payload : List Byte) : (extFrame proto payload).length = payload.length + 7 := by
  simp [extFrame]

theorem buildAck_length (serial : Half) (proto : Byte) : (buildAck serial proto).length = 10 := rfl

theorem stdLen_toNat (payload : List Byte) (h : payload.length ≤ 250) : (stdLen payload).toNat = payload.length + 5 := by
  simp only [stdLen, BitVec.toNat_ofNat]
  omega

theorem extLen_toNat (payload : List Byte) (h : payload.length ≤ 65534) : (extLen payload).toNat = payload.length + 1 := by
  simp only [extLen, BitVec.toNat_ofNat]
  omega

/-! Decode. -/

/-- What `decodeStep` does: the frame is discarded, or its record is delivered (R110, R175). -/
theorem decodeStep_cases (extract : Record → Record) (common : Record) (s : State) :
    (crcMismatch common = true ∧ s.crcEnforce = true ∧ decodeStep extract common s = raiseEvent .crcErr common.offset s)
    ∨ (crcMismatch common = true ∧ s.crcEnforce = false
        ∧ decodeStep extract common s = deliver (extract common) (raiseEvent .crcErr common.offset s))
    ∨ (crcMismatch common = false ∧ decodeStep extract common s = deliver (extract common) s) := by
  unfold decodeStep
  cases hm : crcMismatch common <;> cases he : s.crcEnforce <;> simp

theorem autoAck_status (r : Record) (s : State) : (autoAck r s).status = s.status := by
  unfold autoAck
  split <;> rfl

theorem recordEvents_flags (r : Record) (s : State) (e : Event) :
    flagOf e (recordEvents r s).status
      = (flagOf e s.status || (decide (e = .short) && r.short) || (decide (e = .badDate) && (r.dt.vDtp && !r.dt.vDt))) := by
  unfold recordEvents
  cases r.short <;> cases r.dt.vDtp <;> cases r.dt.vDt <;>
    simp [flagOf_setFlag, Bool.or_comm]

/-- A record's events touch the flags only: neither event has a code or a counter (R215). -/
theorem recordEvents_eq (r : Record) (s : State) :
    recordEvents r s = { s with status := (recordEvents r s).status } := by
  unfold recordEvents
  cases r.short <;> cases r.dt.vDtp <;> cases r.dt.vDt <;> rfl

/-- What `deliver` leaves alone, and what it pushes (R110, R187). -/
theorem deliver_spec (r : Record) (s : State) :
    deliver r s =
      { s with
        status := (recordEvents r s).status
        recq := s.recq ++ [r]
        ackq := if r.ack && s.ackEn then s.ackq ++ [buildAck r.serial r.proto] else s.ackq } := by
  rw [deliver, recordEvents_eq, autoAck, pushRec]
  cases r.ack <;> cases s.ackEn <;> rfl

/-- The flags after a delivery (R110, R121, R131). -/
theorem deliver_flags (r : Record) (s : State) (e : Event) :
    flagOf e (deliver r s).status
      = (flagOf e s.status || (decide (e = .short) && r.short) || (decide (e = .badDate) && (r.dt.vDtp && !r.dt.vDt))) := by
  rw [deliver_spec]
  exact recordEvents_flags r s e

end Sys2Proof.Machine
end

