-- ==== Sys2Proof/Laws/Decode.lean ====
section
/-! SUPPORT. What the decoder can answer, and which extractor an instruction runs. -/

namespace Sys2Proof.Machine

/-- The extractor of a protocol code (30_encoding R67, R68). -/
def extractorOf (proto : Byte) : List Byte → Record → Record :=
  if proto = 0x01 then extractLogin
  else if proto ∈ ([0x02, 0x10, 0x11, 0x12, 0x22, 0xA0, 0x19, 0x1A] : List Byte) then extractGpsLbs proto
  else if proto = 0x13 then extractStatus
  else if proto = 0x16 then extractAlarm
  else if proto = 0x30 then extractWifi
  else if proto = 0x69 then extractIccid
  else extractOpaque

/-- Every STD frame instruction yields by the code's extractor (R67). -/
theorem runFrame_selectStd (proto : Byte) (payload : List Byte) (serial checksum : Half) (s : State) :
    runFrame (selectStd proto payload serial checksum) s
      = yieldStd proto (extractorOf proto) payload serial checksum s := by
  unfold selectStd
  split <;> first
    | rfl
    | (have h : extractorOf proto = extractOpaque := by
        unfold extractorOf
        simp only [List.mem_cons, List.not_mem_nil, or_false]
        simp_all
       simp only [runFrame, yieldUnknown, h])

/-- Every EXT frame instruction yields by the code's extractor (R67). -/
theorem runFrame_selectExt (proto : Byte) (payload : List Byte) (s : State) :
    runFrame (selectExt proto payload) s = yieldExt proto (extractorOf proto) payload s := by
  unfold selectExt
  split <;> first
    | rfl
    | (have h : extractorOf proto = extractOpaque := by
        unfold extractorOf
        simp only [List.mem_cons, List.not_mem_nil, or_false]
        simp_all
       simp only [runFrame, yieldUnknownX, h])

/-- `exec` of an STD frame instruction is its yield. -/
theorem exec_selectStd (proto : Byte) (payload : List Byte) (serial checksum : Half) (s : State) :
    exec (selectStd proto payload serial checksum) s = .next (runFrame (selectStd proto payload serial checksum) s) := by
  unfold selectStd
  split <;> rfl

/-- `exec` of an EXT frame instruction is its yield. -/
theorem exec_selectExt (proto : Byte) (payload : List Byte) (s : State) :
    exec (selectExt proto payload) s = .next (runFrame (selectExt proto payload) s) := by
  unfold selectExt
  split <;> rfl

/-- The bytes of an STD instruction are the frame of its code. -/
theorem encode_selectStd (proto : Byte) (payload : List Byte) (serial checksum : Half) :
    encode (selectStd proto payload serial checksum) = .frame (stdFrame proto payload serial checksum) := by
  unfold selectStd
  split <;> rfl

/-- The bytes of an EXT instruction are the frame of its code. -/
theorem encode_selectExt (proto : Byte) (payload : List Byte) :
    encode (selectExt proto payload) = .frame (extFrame proto payload) := by
  unfold selectExt
  split <;> rfl

theorem wellFormed_selectStd (proto : Byte) (payload : List Byte) (serial checksum : Half) :
    wellFormed (selectStd proto payload serial checksum) = stdPayloadOk payload := by
  unfold selectStd
  split <;> first
    | rfl
    | (simp only [wellFormed, knownCodes]
       simp_all)

theorem wellFormed_selectExt (proto : Byte) (payload : List Byte) :
    wellFormed (selectExt proto payload) = extPayloadOk payload := by
  unfold selectExt
  split <;> first
    | rfl
    | (simp only [wellFormed, knownCodes]
       simp_all)

/-- An extractor leaves the common fields of a record alone, SHORT apart (R110, R121). -/
theorem extractorOf_common (proto : Byte) (payload : List Byte) (r : Record) :
    ∃ x : Record, extractorOf proto payload r = { r with
      short := x.short, login := x.login, dt := x.dt, gps := x.gps, lbs := x.lbs, tailOff := x.tailOff, tailLen := x.tailLen
      st := x.st, al := x.al, wifi := x.wifi, iccid := x.iccid } := by
  refine ⟨extractorOf proto payload r, ?_⟩
  unfold extractorOf
  split
  · rfl
  · split
    · rfl
    · split
      · rfl
      · split
        · rfl
        · split
          · rfl
          · split <;> rfl

/-- The STATUS register after a decode (R110, R121, R131, R175). -/
theorem decodeStep_status (extract : Record → Record) (common : Record) (s : State) :
    (decodeStep extract common s).status
      = if crcMismatch common = true ∧ s.crcEnforce = true then s.status ||| 0x020
        else s.status ||| (if crcMismatch common then 0x020 else 0) ||| (if (extract common).short then 0x040 else 0)
          ||| (if (extract common).dt.vDtp && !(extract common).dt.vDt then 0x080 else 0) := by
  unfold decodeStep
  cases crcMismatch common <;> cases s.crcEnforce <;>
    simp only [if_true, if_false, Bool.false_eq_true, false_and, and_false, and_self] <;>
    first
    | (rw [deliver_spec]
       simp only [recordEvents]
       cases (extract common).short <;> cases ((extract common).dt.vDtp && !(extract common).dt.vDt) <;>
         simp [raiseEvent, setFlag, eventBit])
    | simp [raiseEvent, setFlag, eventBit]

end Sys2Proof.Machine
end

