-- ==== Sys2Proof/Laws/Frames.lean ====
section
/-! SUPPORT. What the decoder answers on the bytes of a frame, and what bytes it reads an instruction from. -/

namespace Sys2Proof.Machine

theorem byteAt_append_add (p q : List Byte) (i : Nat) : byteAt (p ++ q) (p.length + i) = byteAt q i := by
  simp only [byteAt, List.getD_eq_getElem?_getD]
  rw [List.getElem?_append_right (by omega), Nat.add_sub_cancel_left]

/-- Six bytes split off the front. -/
theorem split_six (t : List Byte) (h : 6 ≤ t.length) : ∃ a b c d e f r, t = a :: b :: c :: d :: e :: f :: r := by
  match t, h with
  | a :: b :: c :: d :: e :: f :: r, _ => exact ⟨a, b, c, d, e, f, r, rfl⟩

/-- The decoder reads an STD frame of admissible payload as its code's instruction (R61, R67). -/
theorem decodeStd_frame (proto : Byte) (payload : List Byte) (serial checksum : Half) (rest : List Byte)
    (h : stdPayloadOk payload = true) :
    decodeFrame (stdFrame proto payload serial checksum ++ rest) = .ok (selectStd proto payload serial checksum, rest) := by
  simp only [stdPayloadOk, Bool.and_eq_true, decide_eq_true_eq] at h
  obtain ⟨h1, h2⟩ := h
  have hlen : (stdLen payload).toNat = payload.length + 5 := stdLen_toNat payload h1
  have hF : stdFrame proto payload serial checksum ++ rest
      = [0x78, 0x78, stdLen payload, proto] ++ payload ++
        [hi8 serial, lo8 serial, hi8 checksum, lo8 checksum, 0x0D, 0x0A] ++ rest := by simp [stdFrame, stdCovered]
  have hat (i : Nat) (hi : i < 6) : byteAt (stdFrame proto payload serial checksum ++ rest) (payload.length + 4 + i)
      = byteAt [hi8 serial, lo8 serial, hi8 checksum, lo8 checksum, 0x0D, 0x0A] i := by
    rw [hF, List.append_assoc]
    have := byteAt_append_add ([0x78, 0x78, stdLen payload, proto] ++ payload)
      ([hi8 serial, lo8 serial, hi8 checksum, lo8 checksum, 0x0D, 0x0A] ++ rest) i
    simp only [List.length_append, List.length_cons, List.length_nil] at this
    rw [show payload.length + 4 + i = 0 + 1 + 1 + 1 + 1 + payload.length + i by omega, this]
    unfold byteAt
    rw [List.getD_append _ _ _ _ (by simpa using hi)]
  have hl : (stdFrame proto payload serial checksum ++ rest).length = payload.length + 10 + rest.length := by
    rw [List.length_append, stdFrame_length]
  have hd : decodeFrame (stdFrame proto payload serial checksum ++ rest) = decodeStd (stdFrame proto payload serial checksum ++ rest) := by
    simp [stdFrame, decodeFrame]
  have h2' : byteAt (stdFrame proto payload serial checksum ++ rest) 2 = stdLen payload := rfl
  have h3' : byteAt (stdFrame proto payload serial checksum ++ rest) 3 = proto := rfl
  have hp : ((stdFrame proto payload serial checksum ++ rest).drop 4).take payload.length = payload := by
    rw [hF]; simp
  have hr : (stdFrame proto payload serial checksum ++ rest).drop (payload.length + 10) = rest := by
    rw [List.drop_append_of_le_length (by rw [stdFrame_length]), List.drop_of_length_le (by rw [stdFrame_length])]; rfl
  have e0 := hat 0 (by omega); have e1 := hat 1 (by omega); have e2 := hat 2 (by omega); have e3 := hat 3 (by omega)
  have e4 := hat 4 (by omega); have e5 := hat 5 (by omega)
  rw [hd, decodeStd, if_neg (by omega), h2', h3', hlen]
  simp only [stopMarkerAt, show payload.length + 5 + 5 - 2 = payload.length + 4 + 4 by omega,
    show payload.length + 5 + 5 - 1 = payload.length + 4 + 5 by omega,
    show payload.length + 5 + 5 - 6 = payload.length + 4 + 0 by omega,
    show payload.length + 5 + 5 - 5 = payload.length + 4 + 1 by omega,
    show payload.length + 5 + 5 - 4 = payload.length + 4 + 2 by omega,
    show payload.length + 5 + 5 - 3 = payload.length + 4 + 3 by omega,
    show payload.length + 5 - 5 = payload.length by omega, e0, e1, e2, e3, e4, e5, hp, hr]
  rw [if_neg (by omega), if_neg (by omega), if_neg (by omega)]
  simp [byteAt, be16_hi_lo]

/-- The decoder reads an EXT frame of admissible payload as its code's instruction (R62, R67). -/
theorem decodeExt_frame (proto : Byte) (payload : List Byte) (rest : List Byte) (h : extPayloadOk payload = true) :
    decodeFrame (extFrame proto payload ++ rest) = .ok (selectExt proto payload, rest) := by
  simp only [extPayloadOk, decide_eq_true_eq] at h
  have hm := cfg.maxFrame
  have hlen : (extLen payload).toNat = payload.length + 1 := extLen_toNat payload (by omega)
  have hF : extFrame proto payload ++ rest
      = [0x79, 0x79, hi8 (extLen payload), lo8 (extLen payload), proto] ++ payload ++ [0x0D, 0x0A] ++ rest := by simp [extFrame]
  have hat (i : Nat) (hi : i < 2) : byteAt (extFrame proto payload ++ rest) (payload.length + 5 + i)
      = byteAt [0x0D, 0x0A] i := by
    rw [hF, List.append_assoc]
    have := byteAt_append_add ([0x79, 0x79, hi8 (extLen payload), lo8 (extLen payload), proto] ++ payload)
      ([0x0D, 0x0A] ++ rest) i
    simp only [List.length_append, List.length_cons, List.length_nil] at this
    rw [show payload.length + 5 + i = 0 + 1 + 1 + 1 + 1 + 1 + payload.length + i by omega, this]
    unfold byteAt
    rw [List.getD_append _ _ _ _ (by simpa using hi)]
  have hl : (extFrame proto payload ++ rest).length = payload.length + 7 + rest.length := by
    rw [List.length_append, extFrame_length]
  have hd : decodeFrame (extFrame proto payload ++ rest) = decodeExt (extFrame proto payload ++ rest) := by
    simp [extFrame, decodeFrame]
  have h2' : be16 (byteAt (extFrame proto payload ++ rest) 2) (byteAt (extFrame proto payload ++ rest) 3) = extLen payload :=
    be16_hi_lo _
  have h3' : byteAt (extFrame proto payload ++ rest) 4 = proto := rfl
  have hp : ((extFrame proto payload ++ rest).drop 5).take payload.length = payload := by
    rw [hF]; simp
  have hr : (extFrame proto payload ++ rest).drop (payload.length + 7) = rest := by
    rw [List.drop_append_of_le_length (by rw [extFrame_length]), List.drop_of_length_le (by rw [extFrame_length])]; rfl
  have e0 := hat 0 (by omega); have e1 := hat 1 (by omega)
  rw [hd, decodeExt, if_neg (by omega), h2', h3', hlen]
  simp only [stopMarkerAt, show payload.length + 1 + 6 - 2 = payload.length + 5 + 0 by omega,
    show payload.length + 1 + 6 - 1 = payload.length + 5 + 1 by omega,
    show payload.length + 1 - 1 = payload.length by omega, e0, e1, hp, hr]
  rw [if_neg (by omega), if_neg (by omega), if_neg (by omega)]
  simp [byteAt]

theorem hi8_be16 (x y : Byte) : hi8 (be16 x y) = x := by
  apply BitVec.eq_of_toNat_eq
  rw [hi8, BitVec.extractLsb'_toNat, be16_toNat, Nat.shiftRight_eq_div_pow]
  have := x.isLt; have := y.isLt; omega

theorem lo8_be16 (x y : Byte) : lo8 (be16 x y) = y := by
  apply BitVec.eq_of_toNat_eq
  rw [lo8, BitVec.extractLsb'_toNat, be16_toNat, Nat.shiftRight_eq_div_pow]
  have := x.isLt; have := y.isLt; omega

/-- What a decoded STD candidate is (R61, R101). -/
theorem decodeStd_ok (bytes : List Byte) (i : Instr) (rest : List Byte) (h0 : ∃ t, bytes = 0x78 :: 0x78 :: t)
    (h : decodeStd bytes = .ok (i, rest)) :
    ∃ proto payload serial checksum, i = selectStd proto payload serial checksum ∧ stdPayloadOk payload = true
      ∧ bytes = stdFrame proto payload serial checksum ++ rest := by
  obtain ⟨t, rfl⟩ := h0
  unfold decodeStd at h
  split at h
  · cases h
  · dsimp only at h
    split at h
    · cases h
    · split at h
      · cases h
      · split at h
        · cases h
        · split at h
          · cases h
          · rename_i hn0 h1 h2 h3 h4
            injection h with h
            simp only [Prod.mk.injEq] at h
            obtain ⟨rfl, rfl⟩ := h
            match t with
            | [] => simp [byteAt] at h2
            | [l] => 
              simp only [byteAt, List.getD_cons_succ, List.getD_cons_zero, List.length_cons, List.length_nil] at *
              omega
            | l :: p :: u =>
              have hl2 : byteAt (0x78 :: 0x78 :: l :: p :: u) 2 = l := rfl
              have hl3 : byteAt (0x78 :: 0x78 :: l :: p :: u) 3 = p := rfl
              rw [hl2] at h1 h2 h3 h4
              rw [hl2, hl3]
              simp only [List.length_cons] at h3
              obtain ⟨n, hn⟩ : ∃ n, l.toNat = n + 5 := ⟨l.toNat - 5, by omega⟩
              rw [hn] at h1 h2 h3 h4
              rw [hn]
              have hl' := l.isLt
              obtain ⟨a, b, c, d, e, f, r, hr⟩ := split_six (u.drop n) (by rw [List.length_drop]; omega)
              have hu : u = u.take n ++ a :: b :: c :: d :: e :: f :: r := by rw [← hr, List.take_append_drop]
              generalize hP : u.take n = P at hu
              have hPl : P.length = n := by rw [← hP, List.length_take]; omega
              subst hu
              have at_ (j : Nat) : byteAt (0x78 :: 0x78 :: l :: p :: (P ++ a :: b :: c :: d :: e :: f :: r)) (n + 4 + j)
                  = byteAt (a :: b :: c :: d :: e :: f :: r) j := by
                have := byteAt_append_add (0x78 :: 0x78 :: l :: p :: P) (a :: b :: c :: d :: e :: f :: r) j
                simp only [List.length_cons, hPl] at this
                rw [← this]; simp
              simp only [stopMarkerAt, show n + 5 + 5 - 2 = n + 4 + 4 by omega, show n + 5 + 5 - 1 = n + 4 + 5 by omega, at_] at h4
              simp only [byteAt, List.getD_cons_succ, List.getD_cons_zero] at h4
              simp at h4
              obtain ⟨rfl, rfl⟩ := h4
              have hs : stdPayloadOk P = true := by
                simp only [stdPayloadOk, Bool.and_eq_true, decide_eq_true_eq, hPl]; omega
              refine ⟨p, P, be16 a b, be16 c d, ?_, hs, ?_⟩
              · simp only [show n + 5 + 5 - 6 = n + 4 + 0 by omega, show n + 5 + 5 - 5 = n + 4 + 1 by omega,
                  show n + 5 + 5 - 4 = n + 4 + 2 by omega, show n + 5 + 5 - 3 = n + 4 + 3 by omega, at_]
                simp [byteAt, ← hPl]
              · have hll : stdLen P = l := by
                  apply BitVec.eq_of_toNat_eq
                  rw [stdLen_toNat P (by omega), hn, hPl]
                simp [stdFrame, stdCovered, hll, hi8_be16, lo8_be16, ← hPl]

/-- What a decoded EXT candidate is (R62, R101). -/
theorem decodeExt_ok (bytes : List Byte) (i : Instr) (rest : List Byte) (h0 : ∃ t, bytes = 0x79 :: 0x79 :: t)
    (h : decodeExt bytes = .ok (i, rest)) :
    ∃ proto payload, i = selectExt proto payload ∧ extPayloadOk payload = true ∧ bytes = extFrame proto payload ++ rest := by
  obtain ⟨t, rfl⟩ := h0
  unfold decodeExt at h
  split at h
  · cases h
  · dsimp only at h
    split at h
    · cases h
    · split at h
      · cases h
      · split at h
        · cases h
        · split at h
          · cases h
          · rename_i hn0 h1 h2 h3 h4
            injection h with h
            simp only [Prod.mk.injEq] at h
            obtain ⟨rfl, rfl⟩ := h
            match t with
            | [] => simp at hn0
            | [l] => simp at hn0
            | [l, m] =>
              simp only [List.length_cons, List.length_nil] at h3
              omega
            | l :: m :: p :: u =>
              have hl2 : be16 (byteAt (0x79 :: 0x79 :: l :: m :: p :: u) 2) (byteAt (0x79 :: 0x79 :: l :: m :: p :: u) 3) = be16 l m := rfl
              have hl3 : byteAt (0x79 :: 0x79 :: l :: m :: p :: u) 4 = p := rfl
              rw [hl2] at h1 h2 h3 h4
              rw [hl2, hl3]
              simp only [List.length_cons] at h3
              obtain ⟨n, hn⟩ : ∃ n, (be16 l m).toNat = n + 1 := ⟨(be16 l m).toNat - 1, by omega⟩
              rw [hn] at h1 h2 h3 h4
              rw [hn]
              have hm := cfg.maxFrame
              obtain ⟨a, b, r, hr⟩ : ∃ a b r, u.drop n = a :: b :: r := by
                have : 2 ≤ (u.drop n).length := by rw [List.length_drop]; omega
                match u.drop n, this with
                | a :: b :: r, _ => exact ⟨a, b, r, rfl⟩
              have hu : u = u.take n ++ a :: b :: r := by rw [← hr, List.take_append_drop]
              generalize hP : u.take n = P at hu
              have hPl : P.length = n := by rw [← hP, List.length_take]; omega
              subst hu
              have at_ (j : Nat) : byteAt (0x79 :: 0x79 :: l :: m :: p :: (P ++ a :: b :: r)) (n + 5 + j)
                  = byteAt (a :: b :: r) j := by
                have := byteAt_append_add (0x79 :: 0x79 :: l :: m :: p :: P) (a :: b :: r) j
                simp only [List.length_cons, hPl] at this
                rw [← this]; simp
              simp only [stopMarkerAt, show n + 1 + 6 - 2 = n + 5 + 0 by omega, show n + 1 + 6 - 1 = n + 5 + 1 by omega, at_] at h4
              simp only [byteAt, List.getD_cons_succ, List.getD_cons_zero] at h4
              simp at h4
              obtain ⟨rfl, rfl⟩ := h4
              refine ⟨p, P, by simp [← hPl], ?_, ?_⟩
              · simp only [extPayloadOk, decide_eq_true_eq, hPl]; omega
              · have hll : extLen P = be16 l m := by
                  apply BitVec.eq_of_toNat_eq
                  rw [extLen_toNat P (by omega), hn, hPl]
                simp [extFrame, hll, hi8_be16, lo8_be16, ← hPl]

/-- What the decoder can read from the head of a byte sequence (R60, R67, R101): an STD or an EXT instruction of admissible payload,
whose bytes stand there. -/
theorem decodeFrame_ok (bytes : List Byte) (i : Instr) (rest : List Byte) (h : decodeFrame bytes = .ok (i, rest)) :
    (∃ proto payload serial checksum, i = selectStd proto payload serial checksum ∧ stdPayloadOk payload = true
      ∧ bytes = stdFrame proto payload serial checksum ++ rest)
    ∨ (∃ proto payload, i = selectExt proto payload ∧ extPayloadOk payload = true ∧ bytes = extFrame proto payload ++ rest) := by
  unfold decodeFrame at h
  split at h
  · split at h
    · rename_i hb; obtain ⟨rfl, rfl⟩ := hb
      exact .inl (decodeStd_ok _ _ _ ⟨_, rfl⟩ h)
    · split at h
      · rename_i hb; obtain ⟨rfl, rfl⟩ := hb
        exact .inr (decodeExt_ok _ _ _ ⟨_, rfl⟩ h)
      · cases h
  · cases h

/-- The selector gives the row of an unlisted code (R67, R163). -/
theorem selectStd_unknown (proto : Byte) (payload : List Byte) (serial checksum : Half) (h : knownCodes.contains proto = false) :
    selectStd proto payload serial checksum = .unknown proto payload serial checksum := by
  unfold selectStd
  split <;> first
    | rfl
    | (exact absurd h (by decide))

theorem selectExt_unknown (proto : Byte) (payload : List Byte) (h : knownCodes.contains proto = false) :
    selectExt proto payload = .unknownX proto payload := by
  unfold selectExt
  split <;> first
    | rfl
    | (exact absurd h (by decide))

/-- The well-formed instructions that are frames are what the selectors give (R67). -/
theorem frame_cases (i : Instr) (bytes : List Byte) (hw : wellFormed i = true) (he : encode i = .frame bytes) :
    (∃ proto payload serial checksum, i = selectStd proto payload serial checksum ∧ stdPayloadOk payload = true
      ∧ bytes = stdFrame proto payload serial checksum)
    ∨ (∃ proto payload, i = selectExt proto payload ∧ extPayloadOk payload = true ∧ bytes = extFrame proto payload) := by
  cases i with
  | unknown proto payload serial checksum =>
    simp only [wellFormed, Bool.and_eq_true, Bool.not_eq_true'] at hw
    injection he with he
    exact .inl ⟨proto, payload, serial, checksum, (selectStd_unknown _ _ _ _ hw.1).symm, hw.2, he.symm⟩
  | unknownX proto payload =>
    simp only [wellFormed, Bool.and_eq_true, Bool.not_eq_true'] at hw
    injection he with he
    exact .inr ⟨proto, payload, (selectExt_unknown _ _ hw.1).symm, hw.2, he.symm⟩
  | ack | rx | csrRead | csrWrite | cmdFlush | cmdSreset | cmdCrcInit | cmdPopRec | cmdPopAck | crcData | crcValue | ackReq
  | recPeek | ackPeek | hreset => cases he
  | _ =>
    injection he with he
    first
      | exact .inl ⟨_, _, _, _, rfl, hw, he.symm⟩
      | exact .inr ⟨_, _, rfl, hw, he.symm⟩

end Sys2Proof.Machine
end

