-- ==== Sys2Proof/Laws/Detector.lean ====
section
/-! SUPPORT. What the yield of a frame, one pass of the detector, and a whole drain can do. -/

namespace Sys2Proof.Machine

/-! The yield (R101, R110). -/

/-- What a yield does to the state outside the flags, the event registers and the queues. -/
theorem decodeStep_frame (extract : Record → Record) (common : Record) (s : State) :
    (decodeStep extract common s).acc = s.acc ∧ (decodeStep extract common s).head = s.head
      ∧ (decodeStep extract common s).halted = s.halted ∧ (decodeStep extract common s).crcEnforce = s.crcEnforce
      ∧ (decodeStep extract common s).ackEn = s.ackEn ∧ (decodeStep extract common s).cntFrames = s.cntFrames
      ∧ (decodeStep extract common s).cntDropped = s.cntDropped ∧ (decodeStep extract common s).cntFramErr = s.cntFramErr
      ∧ (decodeStep extract common s).crcReg = s.crcReg ∧ (decodeStep extract common s).inbox = s.inbox
      ∧ (decodeStep extract common s).result = s.result := by
  obtain ⟨-, -, h⟩ | ⟨-, -, h⟩ | ⟨-, h⟩ := decodeStep_cases extract common s <;>
    simp [h, deliver_spec, eventIsFraming]

/-- The queues after a decode (R110): nothing, or the record and its acknowledgement. -/
theorem decodeStep_queues (extract : Record → Record) (common : Record) (s : State) :
    (crcMismatch common = true ∧ s.crcEnforce = true
      ∧ (decodeStep extract common s).recq = s.recq ∧ (decodeStep extract common s).ackq = s.ackq)
    ∨ ((crcMismatch common = false ∨ s.crcEnforce = false)
      ∧ (decodeStep extract common s).recq = s.recq ++ [extract common]
      ∧ (decodeStep extract common s).ackq
          = if (extract common).ack && s.ackEn then s.ackq ++ [buildAck (extract common).serial (extract common).proto]
            else s.ackq) := by
  obtain ⟨h1, h2, h⟩ | ⟨h1, h2, h⟩ | ⟨h1, h⟩ := decodeStep_cases extract common s
  · exact .inl ⟨h1, h2, by simp [h], by simp [h]⟩
  · exact .inr ⟨.inr h2, by simp [h, deliver_spec], by simp [h, deliver_spec]⟩
  · exact .inr ⟨.inl h1, by simp [h, deliver_spec], by simp [h, deliver_spec]⟩

/-- The event registers after a decode (R110, R175). -/
theorem decodeStep_events (extract : Record → Record) (common : Record) (s : State) :
    (decodeStep extract common s).lastErr = (if crcMismatch common then 5 else s.lastErr)
      ∧ (decodeStep extract common s).lastOff = (if crcMismatch common then common.offset else s.lastOff)
      ∧ (decodeStep extract common s).cntCrcErr = (if crcMismatch common then s.cntCrcErr + 1 else s.cntCrcErr) := by
  obtain ⟨h1, h2, h⟩ | ⟨h1, h2, h⟩ | ⟨h1, h⟩ := decodeStep_cases extract common s <;>
    simp [h, h1, deliver_spec, eventCode]

/-! One pass. -/

section resync
variable (s : State) (k : Nat)
@[simp] theorem resync_acc : (resync k s).acc = s.acc.drop k := by unfold resync; split <;> simp_all
@[simp] theorem resync_head : (resync k s).head = s.head + BitVec.ofNat 32 k := by unfold resync; split <;> simp_all
@[simp] theorem resync_cntDropped : (resync k s).cntDropped = s.cntDropped + BitVec.ofNat 32 k := by
  unfold resync; split <;> simp_all
@[simp] theorem resync_halted : (resync k s).halted = s.halted := by unfold resync; split <;> simp_all
@[simp] theorem resync_crcEnforce : (resync k s).crcEnforce = s.crcEnforce := by unfold resync; split <;> simp_all
@[simp] theorem resync_ackEn : (resync k s).ackEn = s.ackEn := by unfold resync; split <;> simp_all
@[simp] theorem resync_lastErr : (resync k s).lastErr = s.lastErr := by unfold resync; split <;> simp_all [eventCode]
@[simp] theorem resync_lastOff : (resync k s).lastOff = s.lastOff := by unfold resync; split <;> simp_all [eventCode]
@[simp] theorem resync_cntFrames : (resync k s).cntFrames = s.cntFrames := by unfold resync; split <;> simp_all
@[simp] theorem resync_cntFramErr : (resync k s).cntFramErr = s.cntFramErr := by
  unfold resync; split <;> simp_all [eventIsFraming]
@[simp] theorem resync_cntCrcErr : (resync k s).cntCrcErr = s.cntCrcErr := by unfold resync; split <;> simp_all
@[simp] theorem resync_crcReg : (resync k s).crcReg = s.crcReg := by unfold resync; split <;> simp_all
@[simp] theorem resync_recq : (resync k s).recq = s.recq := by unfold resync; split <;> simp_all
@[simp] theorem resync_ackq : (resync k s).ackq = s.ackq := by unfold resync; split <;> simp_all
@[simp] theorem resync_inbox : (resync k s).inbox = s.inbox := by unfold resync; split <;> simp_all
@[simp] theorem resync_result : (resync k s).result = s.result := by unfold resync; split <;> simp_all
end resync

@[simp] theorem resync_zero (s : State) : resync 0 s = s := by simp [resync]

/-- The three ways a candidate fails (R97, R98, R100). -/
def candidateErrors : List Event := [.overLen, .runt, .badStop]

/-- What can become of a candidate (R95 to R101). -/
theorem candidate_cases (s : State) :
    candidate s = .stop s
    ∨ (∃ e ∈ candidateErrors, s.acc ≠ [] ∧ candidate s = .again (failCandidate e s))
    ∨ (∃ i rest, decodeFrame s.acc = .ok (i, rest) ∧ candidate s = .again (runFrame i s)) := by
  have hne (r : DecodeReject) (h : decodeFrame s.acc = .error r) (hr : r ≠ .noMarker) : s.acc ≠ [] := by
    intro h0
    rw [h0] at h
    simp only [decodeFrame, Except.error.injEq] at h
    exact hr h.symm
  unfold candidate
  split
  · exact .inr (.inr ⟨_, _, ‹_›, rfl⟩)
  · exact .inr (.inl ⟨.overLen, by simp [candidateErrors], hne _ ‹_› (by simp), rfl⟩)
  · exact .inr (.inl ⟨.runt, by simp [candidateErrors], hne _ ‹_› (by simp), rfl⟩)
  · exact .inr (.inl ⟨.badStop, by simp [candidateErrors], hne _ ‹_› (by simp), rfl⟩)
  all_goals exact .inl rfl

/-- What one pass of the loop can do (R91, R102). -/
theorem iteration_cases (s : State) :
    (s.acc.length < 5 ∧ iteration s = .stop s)
    ∨ (5 ≤ s.acc.length ∧ markerIndex s.acc = none ∧ iteration s = .stop (dropGarbage s))
    ∨ (∃ k, 5 ≤ s.acc.length ∧ markerIndex s.acc = some k ∧ iteration s = candidate (resync k s)) := by
  unfold iteration
  split
  · exact .inl ⟨‹_›, rfl⟩
  · split
    · exact .inr (.inl ⟨by omega, ‹_›, rfl⟩)
    · exact .inr (.inr ⟨_, by omega, ‹_›, rfl⟩)

/-- A property that every way a pass can change the state keeps is kept by a drain. -/
theorem drainLoop_keeps (P : State → Prop) (hgarbage : ∀ s, P s → P (dropGarbage s)) (hresync : ∀ k s, P s → P (resync k s))
    (hfail : ∀ e ∈ candidateErrors, ∀ s, s.acc ≠ [] → P s → P (failCandidate e s))
    (hrun : ∀ i rest s, decodeFrame s.acc = .ok (i, rest) → P s → P (runFrame i s)) :
    ∀ n s, P s → P (drainLoop n s) := by
  intro n
  induction n with
  | zero => exact fun s h => h
  | succ n ih =>
    intro s h
    unfold drainLoop
    obtain ⟨-, hi⟩ | ⟨-, -, hi⟩ | ⟨k, -, -, hi⟩ := iteration_cases s
    · rw [hi]; exact h
    · rw [hi]; exact hgarbage s h
    · rw [hi]
      obtain hc | ⟨e, he, hne, hc⟩ | ⟨i, rest, hd, hc⟩ := candidate_cases (resync k s)
      · rw [hc]; exact hresync k s h
      · rw [hc]; exact ih _ (hfail e he _ hne (hresync k s h))
      · rw [hc]; exact ih _ (hrun i rest _ hd (hresync k s h))

/-- `drainLoop_keeps` for the whole drain. -/
theorem drain_keeps (P : State → Prop) (hgarbage : ∀ s, P s → P (dropGarbage s)) (hresync : ∀ k s, P s → P (resync k s))
    (hfail : ∀ e ∈ candidateErrors, ∀ s, s.acc ≠ [] → P s → P (failCandidate e s))
    (hrun : ∀ i rest s, decodeFrame s.acc = .ok (i, rest) → P s → P (runFrame i s)) (s : State) (h : P s) : P (drain s) :=
  drainLoop_keeps P hgarbage hresync hfail hrun _ s h

/-! The frame at the head of ACC. -/

/-- Which extractor and which common fields a decoded frame runs with (R67, R110): its yield is one `decodeStep` after its bytes have
left ACC. -/
theorem runFrame_decoded (s : State) (i : Instr) (rest : List Byte) (h : decodeFrame s.acc = .ok (i, rest)) :
    ∃ total extract common, 7 ≤ total ∧ total ≤ cfg.maxFrameLen ∧ total + rest.length = s.acc.length
      ∧ s.acc.drop total = rest ∧ common.seq = s.cntFrames ∧ common.offset = s.head
      ∧ runFrame i s = decodeStep extract common (takeFrame total s) := by
  obtain ⟨p, payload, ser, chk, rfl, hp, hb⟩ | ⟨p, payload, rfl, hp, hb⟩ := decodeFrame_ok _ _ _ h
  · simp only [stdPayloadOk, Bool.and_eq_true, decide_eq_true_eq] at hp
    refine ⟨payload.length + 10, _, _, by omega, by omega, ?_, ?_, ?_, ?_, runFrame_selectStd _ _ _ _ _⟩
    · rw [hb, List.length_append, stdFrame_length]
    · rw [hb, ← stdFrame_length p payload ser chk, List.drop_left]
    · rfl
    · rfl
  · simp only [extPayloadOk, decide_eq_true_eq] at hp
    refine ⟨payload.length + 7, _, _, by omega, by omega, ?_, ?_, ?_, ?_, runFrame_selectExt _ _ _⟩
    · rw [hb, List.length_append, extFrame_length]
    · rw [hb, ← extFrame_length p payload, List.drop_left]
    · rfl
    · rfl

end Sys2Proof.Machine
end

