-- ==== Sys2Proof/Laws/Ports.lean ====
section
/-! SUPPORT. The fields of the host's port words (R64) and what the decoder reads from them. -/

namespace Sys2Proof.Machine

/-- A concatenation as a number. -/
theorem toNat_append_add {n m : Nat} (x : BitVec n) (y : BitVec m) : (x ++ y).toNat = x.toNat * 2 ^ m + y.toNat := by
  rw [BitVec.toNat_append, Nat.shiftLeft_eq, Nat.mul_comm, ← Nat.two_pow_add_eq_or_of_lt y.isLt]

theorem getLsbD_append_low {n m : Nat} (x : BitVec n) (y : BitVec m) (k : Nat) (h : k < m) : (x ++ y).getLsbD k = y.getLsbD k := by
  rw [BitVec.getLsbD_append, if_pos h]

theorem getLsbD_append_high {n m : Nat} (x : BitVec n) (y : BitVec m) (k : Nat) : (x ++ y).getLsbD (m + k) = x.getLsbD k := by
  rw [BitVec.getLsbD_append, if_neg (by omega), Nat.add_sub_cancel_left]

theorem csrWord_we (we : BitVec 1) (a : Byte) (v : Word) : (we ++ a ++ v).getLsbD 40 = we.getLsbD 0 := by
  exact (getLsbD_append_high (we ++ a) v 8).trans (getLsbD_append_high we a 0)

theorem csrWord_offset (we : BitVec 1) (a : Byte) (v : Word) : (we ++ a ++ v).extractLsb' 32 8 = a := by
  have := a.isLt
  have := v.isLt
  apply BitVec.eq_of_toNat_eq
  simp only [BitVec.extractLsb'_toNat, toNat_append_add, Nat.shiftRight_eq_div_pow]
  omega

theorem csrWord_data (we : BitVec 1) (a : Byte) (v : Word) : (we ++ a ++ v).extractLsb' 0 32 = v := by
  have := v.isLt
  apply BitVec.eq_of_toNat_eq
  simp only [BitVec.extractLsb'_toNat, toNat_append_add, Nat.shiftRight_eq_div_pow]
  omega

/-- A CSR access with `we = 1` is the row of its offset and word (R64, R196). -/
theorem decodeCsr_write (a : Byte) (v : Word) : decodeCsr (1#1 ++ a ++ v) = selectCsrWrite a v := by
  simp only [decodeCsr, csrWord_we, csrWord_offset, csrWord_data]
  rfl

/-- A CSR access with `we = 0` ignores the word (R64, R195). -/
theorem decodeCsr_read (a : Byte) (v : Word) : decodeCsr (0#1 ++ a ++ v) = if a = 0x30 then .crcValue else .csrRead a := by
  simp only [decodeCsr, csrWord_we, csrWord_offset]
  rfl

theorem rxWord_last (last : Bool) (b : Byte) : (BitVec.ofBool last ++ b).getLsbD 8 = last := by
  refine (getLsbD_append_high (BitVec.ofBool last) b 0).trans ?_
  cases last <;> rfl

theorem rxWord_data (last : Bool) (b : Byte) : (BitVec.ofBool last ++ b).extractLsb' 0 8 = b := by
  have := b.isLt
  apply BitVec.eq_of_toNat_eq
  simp only [BitVec.extractLsb'_toNat, toNat_append_add, Nat.shiftRight_eq_div_pow]
  omega

/-- A CSR write whose word has a row of its own is not the CSR_WRITE row (R24, R178, R188). -/
theorem selectCsrWrite_plain (a : Byte) (v : Word) (h : csrWriteHasRow a v = false) : selectCsrWrite a v = .csrWrite a v := by
  simp only [csrWriteHasRow, Bool.or_eq_false_iff, Bool.and_eq_false_iff, beq_eq_false_iff_ne, decide_eq_false_iff_not] at h
  obtain ⟨⟨h1, h2⟩, h3⟩ := h
  unfold selectCsrWrite
  split
  · subst a
    split <;> first
      | rfl
      | (simp at h1)
  · rfl

end Sys2Proof.Machine
end

