-- ==== Sys2Proof/Laws/PerInstr.lean ====
section
/-! SUPPORT. Statements made per instruction. `EncodeShape`: the form of every well-formed instruction's encoding (30_encoding R60 to
R64). -/

namespace Sys2Proof.Laws.EncodeShape

open Machine

/-- The bytes of a frame have the least and the greatest length, a start marker and the stop marker of R60; a port word is one that the
decoder reads. -/
def Statement (i : Instr) : Prop :=
  wellFormed i = true →
    match encode i with
    | .frame bytes =>
      7 ≤ bytes.length ∧ bytes.length ≤ cfg.maxFrameLen ∧ (bytes.take 2 = [0x78, 0x78] ∨ bytes.take 2 = [0x79, 0x79])
        ∧ bytes.drop (bytes.length - 2) = [0x0D, 0x0A]
    | .port word => ∃ j, decodePort word = .ok j

/-- The form of an STD frame. -/
theorem std (proto : Byte) (payload : List Byte) (serial checksum : Half) (h : stdPayloadOk payload = true) :
    7 ≤ (stdFrame proto payload serial checksum).length ∧ (stdFrame proto payload serial checksum).length ≤ cfg.maxFrameLen
    ∧ ((stdFrame proto payload serial checksum).take 2 = [0x78, 0x78] ∨ (stdFrame proto payload serial checksum).take 2 = [0x79, 0x79])
    ∧ (stdFrame proto payload serial checksum).drop ((stdFrame proto payload serial checksum).length - 2) = [0x0D, 0x0A] := by
  simp only [stdPayloadOk, Bool.and_eq_true, decide_eq_true_eq] at h
  rw [stdFrame_length]
  refine ⟨by omega, by omega, .inl rfl, ?_⟩
  rw [show stdFrame proto payload serial checksum
      = (0x78 :: 0x78 :: (stdCovered proto payload serial ++ [hi8 checksum, lo8 checksum])) ++ [0x0D, 0x0A] by simp [stdFrame],
    List.drop_left' (by simp [stdCovered])]

/-- The form of an EXT frame. -/
theorem ext (proto : Byte) (payload : List Byte) (h : extPayloadOk payload = true) :
    7 ≤ (extFrame proto payload).length ∧ (extFrame proto payload).length ≤ cfg.maxFrameLen
    ∧ ((extFrame proto payload).take 2 = [0x78, 0x78] ∨ (extFrame proto payload).take 2 = [0x79, 0x79])
    ∧ (extFrame proto payload).drop ((extFrame proto payload).length - 2) = [0x0D, 0x0A] := by
  simp only [extPayloadOk, decide_eq_true_eq] at h
  rw [extFrame_length]
  refine ⟨by omega, by omega, .inr rfl, ?_⟩
  rw [show extFrame proto payload
      = (0x79 :: 0x79 :: hi8 (extLen payload) :: lo8 (extLen payload) :: proto :: payload) ++ [0x0D, 0x0A] by simp [extFrame],
    List.drop_left' (by simp)]

/-- The fixed bytes of an ACK word are those that the decoder tests (R63). -/
theorem ackWord (proto : Byte) (serial crc : Half) :
    ∃ j, decodePort (.ack (0x787805#24 ++ proto ++ serial ++ crc ++ 0x0D0A#16)) = .ok j := by
  have h1 := proto.isLt
  have h2 := serial.isLt
  have h3 := crc.isLt
  have hhead : (0x787805#24 ++ proto ++ serial ++ crc ++ 0x0D0A#16).extractLsb' 56 24 = 0x787805#24 := by
    apply BitVec.eq_of_toNat_eq
    simp only [BitVec.extractLsb'_toNat, toNat_append_add, Nat.shiftRight_eq_div_pow, BitVec.toNat_ofNat]
    omega
  have hstop : (0x787805#24 ++ proto ++ serial ++ crc ++ 0x0D0A#16).extractLsb' 0 16 = 0x0D0A#16 := by
    apply BitVec.eq_of_toNat_eq
    simp only [BitVec.extractLsb'_toNat, toNat_append_add, Nat.shiftRight_eq_div_pow, BitVec.toNat_ofNat]
    omega
  exact ⟨_, if_pos ⟨hhead, hstop⟩⟩

/-! One lemma per constructor. -/

theorem login (payload : List Byte) (serial checksum : Half) : Statement (.login payload serial checksum) := std _ payload serial checksum

theorem gps (payload : List Byte) (serial checksum : Half) : Statement (.gps payload serial checksum) := std _ payload serial checksum

theorem heartbeat (payload : List Byte) (serial checksum : Half) : Statement (.heartbeat payload serial checksum) := std _ payload serial checksum

theorem gpsLbs10 (payload : List Byte) (serial checksum : Half) : Statement (.gpsLbs10 payload serial checksum) := std _ payload serial checksum

theorem gpsLbs11 (payload : List Byte) (serial checksum : Half) : Statement (.gpsLbs11 payload serial checksum) := std _ payload serial checksum

theorem gpsLbs12 (payload : List Byte) (serial checksum : Half) : Statement (.gpsLbs12 payload serial checksum) := std _ payload serial checksum

theorem gpsLbs22 (payload : List Byte) (serial checksum : Half) : Statement (.gpsLbs22 payload serial checksum) := std _ payload serial checksum

theorem gpsLbsA0 (payload : List Byte) (serial checksum : Half) : Statement (.gpsLbsA0 payload serial checksum) := std _ payload serial checksum

theorem status (payload : List Byte) (serial checksum : Half) : Statement (.status payload serial checksum) := std _ payload serial checksum

theorem alarm (payload : List Byte) (serial checksum : Half) : Statement (.alarm payload serial checksum) := std _ payload serial checksum

theorem gpsLbsExt (payload : List Byte) (serial checksum : Half) : Statement (.gpsLbsExt payload serial checksum) := std _ payload serial checksum

theorem gpsLbsData (payload : List Byte) (serial checksum : Half) : Statement (.gpsLbsData payload serial checksum) := std _ payload serial checksum

theorem wifi (payload : List Byte) (serial checksum : Half) : Statement (.wifi payload serial checksum) := std _ payload serial checksum

theorem iccid (payload : List Byte) (serial checksum : Half) : Statement (.iccid payload serial checksum) := std _ payload serial checksum

theorem locRep (payload : List Byte) (serial checksum : Half) : Statement (.locRep payload serial checksum) := std _ payload serial checksum

theorem statCmd (payload : List Byte) (serial checksum : Half) : Statement (.statCmd payload serial checksum) := std _ payload serial checksum

theorem infoTx (payload : List Byte) (serial checksum : Half) : Statement (.infoTx payload serial checksum) := std _ payload serial checksum

theorem extCmd98 (payload : List Byte) (serial checksum : Half) : Statement (.extCmd98 payload serial checksum) := std _ payload serial checksum

theorem extCmd99 (payload : List Byte) (serial checksum : Half) : Statement (.extCmd99 payload serial checksum) := std _ payload serial checksum

theorem loginX (payload : List Byte) : Statement (.loginX payload) := ext _ payload

theorem gpsX (payload : List Byte) : Statement (.gpsX payload) := ext _ payload

theorem heartbeatX (payload : List Byte) : Statement (.heartbeatX payload) := ext _ payload

theorem gpsLbs10X (payload : List Byte) : Statement (.gpsLbs10X payload) := ext _ payload

theorem gpsLbs11X (payload : List Byte) : Statement (.gpsLbs11X payload) := ext _ payload

theorem gpsLbs12X (payload : List Byte) : Statement (.gpsLbs12X payload) := ext _ payload

theorem gpsLbs22X (payload : List Byte) : Statement (.gpsLbs22X payload) := ext _ payload

theorem gpsLbsA0X (payload : List Byte) : Statement (.gpsLbsA0X payload) := ext _ payload

theorem statusX (payload : List Byte) : Statement (.statusX payload) := ext _ payload

theorem alarmX (payload : List Byte) : Statement (.alarmX payload) := ext _ payload

theorem gpsLbsExtX (payload : List Byte) : Statement (.gpsLbsExtX payload) := ext _ payload

theorem gpsLbsDataX (payload : List Byte) : Statement (.gpsLbsDataX payload) := ext _ payload

theorem wifiX (payload : List Byte) : Statement (.wifiX payload) := ext _ payload

theorem iccidX (payload : List Byte) : Statement (.iccidX payload) := ext _ payload

theorem locRepX (payload : List Byte) : Statement (.locRepX payload) := ext _ payload

theorem statCmdX (payload : List Byte) : Statement (.statCmdX payload) := ext _ payload

theorem infoTxX (payload : List Byte) : Statement (.infoTxX payload) := ext _ payload

theorem extCmd98X (payload : List Byte) : Statement (.extCmd98X payload) := ext _ payload

theorem extCmd99X (payload : List Byte) : Statement (.extCmd99X payload) := ext _ payload

theorem unknown (proto : Byte) (payload : List Byte) (serial checksum : Half) : Statement (.unknown proto payload serial checksum) := fun h => std proto payload serial checksum (Bool.and_eq_true_iff.mp h).2

theorem unknownX (proto : Byte) (payload : List Byte) : Statement (.unknownX proto payload) := fun h => ext proto payload (Bool.and_eq_true_iff.mp h).2

theorem ack (proto : Byte) (serial crc : Half) : Statement (.ack proto serial crc) := fun _ => ackWord proto serial crc

theorem rx (data : Byte) (last : Bool) : Statement (.rx data last) := fun _ => ⟨_, rfl⟩

theorem csrRead (offset : Byte) : Statement (.csrRead offset) := fun _ => ⟨_, rfl⟩

theorem csrWrite (offset : Byte) (value : Word) : Statement (.csrWrite offset value) := fun _ => ⟨_, rfl⟩

theorem cmdFlush : Statement (.cmdFlush) := fun _ => ⟨_, rfl⟩

theorem cmdSreset : Statement (.cmdSreset) := fun _ => ⟨_, rfl⟩

theorem cmdCrcInit : Statement (.cmdCrcInit) := fun _ => ⟨_, rfl⟩

theorem cmdPopRec : Statement (.cmdPopRec) := fun _ => ⟨_, rfl⟩

theorem cmdPopAck : Statement (.cmdPopAck) := fun _ => ⟨_, rfl⟩

theorem crcData (data : Byte) : Statement (.crcData data) := fun _ => ⟨_, rfl⟩

theorem crcValue : Statement (.crcValue) := fun _ => ⟨_, rfl⟩

theorem ackReq (proto : Byte) (serial : Half) : Statement (.ackReq proto serial) := fun _ => ⟨_, rfl⟩

theorem recPeek : Statement (.recPeek) := fun _ => ⟨_, rfl⟩

theorem ackPeek : Statement (.ackPeek) := fun _ => ⟨_, rfl⟩

theorem hreset : Statement (.hreset) := fun _ => ⟨_, rfl⟩

end Sys2Proof.Laws.EncodeShape
end

