-- ==== Sys2Proof/Machine/Render.lean ====
section
/-! DEFINITION. The host-side renderings of a record (30_encoding R75, R84). Nothing in the block uses them; they tell a reader of a
record which string R84 gives for it. -/

namespace Sys2Proof.Machine

/-- One hex digit, upper case (R84). -/
def hexDigit (n : BitVec 4) : Char := ("0123456789ABCDEF".toList).getD n.toNat '0'

/-- A byte sequence as hex: two digits per byte, high nibble first, no separators (R84). -/
def hexChars (bytes : List Byte) : List Char :=
  bytes.flatMap fun b => [hexDigit (b.extractLsb' 4 4), hexDigit (b.extractLsb' 0 4)]

/-- The payload bytes of a record: `RAW[PAYOFF .. PAYOFF + PAYLEN)` (R74, R116). -/
def payloadOf (r : Record) : List Byte := (r.raw.drop r.payOff.toNat).take r.payLen.toNat

/-- The payload as the host renders it: text when TEXT = 1, else hex (R84, R120). -/
def payloadChars (r : Record) : List Char :=
  if r.text then (payloadOf r).map fun b => Char.ofNat b.toNat else hexChars (payloadOf r)

/-- The terminal identifier as sixteen hex digits, most significant first (R84, R140). -/
def terminalIdChars (r : Record) : List Char :=
  (List.range 16).map fun i => hexDigit (r.login.tid.extractLsb' (60 - 4 * i) 4)

/-- The ICCID's twenty digits (R84, R156). -/
def iccidChars (r : Record) : List Char := r.iccid.dig.map hexDigit

/-- The timezone's value, `sext_16(TZ)` (R66, R140). -/
def timezoneValue (r : Record) : Int := r.login.tz.toInt

/-- Latitude and longitude in millionths of a degree, signed (R84). -/
def latitudeUdeg (r : Record) : Int := r.gps.latUdeg.toInt

/-- See `latitudeUdeg`. -/
def longitudeUdeg (r : Record) : Int := r.gps.lonUdeg.toInt

/-- The name that a name identifier stands for (R75); 15 is unused. -/
def nameString (name : BitVec 4) : String :=
  match name with
  | 0#4 => "UNKNOWN"
  | 1#4 => "LOGIN"
  | 2#4 => "GPS_POSITIONING"
  | 3#4 => "HEARTBEAT"
  | 4#4 => "GPS_LBS"
  | 5#4 => "STATUS"
  | 6#4 => "ALARM"
  | 7#4 => "GPS_LBS_EXTENDED"
  | 8#4 => "GPS_LBS_DATA"
  | 9#4 => "WIFI"
  | 10#4 => "ICCID"
  | 11#4 => "LOCATION_REPORTING"
  | 12#4 => "STATUS_COMMAND"
  | 13#4 => "INFO_TRANSMISSION"
  | 14#4 => "EXTENDED_COMMAND"
  | _ => ""

end Sys2Proof.Machine
end

