-- ==== Sys2Proof/Tests/Slice0.lean ====
section
/-! SUPPORT. Tests: ill-formed terms refused, words of the spec decoded, one step per instruction, and for every statement with
hypotheses a witness that meets them. Expected values are those of spec/95_test_vectors.md and the examples of spec/42_extractors.md,
or worked out by hand from the rule named; none is the model's own output. -/

namespace Sys2Proof.Tests

open Sys2Proof.Machine Sys2Proof.Claims

set_option Elab.async false

/-! What the tests share. -/

/-- LOGIN22 (95_test_vectors). -/
def login22 : List Byte := [0x78, 0x78, 0x11, 0x01, 0x08, 0x67, 0x01, 0x00, 0x70, 0x00, 0x15, 0x58, 0x80, 0x75, 0x1F, 0x41, 0x00, 0x01,
  0x29, 0x47, 0x0D, 0x0A]

/-- G26 (95_test_vectors). -/
def g26 : List Byte := [0x18, 0x03, 0x0F, 0x0A, 0x14, 0x1E, 0xC9, 0x02, 0x6B, 0x3F, 0x3E, 0x0C, 0x46, 0x58, 0x49, 0x3C, 0x15, 0x4C,
  0x01, 0xCC, 0x00, 0x28, 0x7D, 0x00, 0x1F, 0xB8]

/-- The shortest LOGIN frame (95_test_vectors X3). -/
def login10 : List Byte := [0x78, 0x78, 0x05, 0x01, 0x00, 0x01, 0xD9, 0xDC, 0x0D, 0x0A]

/-- The state that a step answers. -/
def after (o : Host.Outcome State Fault Refusal) : State :=
  match o with
  | .next t => t
  | .fault _ => State.reset
  | .refused _ => State.reset

/-- The refusal that a step answers. -/
def refusalOf (o : Host.Outcome State Fault Refusal) : Option Refusal :=
  match o with
  | .next _ => none
  | .fault _ => none
  | .refused why => some why

/-- One step: the last byte of a chunk arrives, the others stand in ACC. -/
def received (bytes : List Byte) : State :=
  after (step { State.reset with acc := bytes.dropLast, inbox := [.rx (1#1 ++ bytes.getLastD 0)] })

/-- The record that one frame leaves. -/
def recordOf (bytes : List Byte) : Record := (received bytes).recq.headD {}

/-- The date-time, GPS and LBS groups of G26 (95_test_vectors 2.3). -/
def dt26 : DateTimeRegs := { vDtp := true, vDt := true, year := 2024, mon := 3, day := 15, hour := 10, min := 20, sec := 30 }
def gps26 : GpsRegs where
  vGps := true
  gpsLen := 12
  sats := 9
  latRaw := 0x026B3F3E
  lonRaw := 0x0C465849
  latUdeg := 22546097
  lonUdeg := 114409285
  speed := 60
  csw := 0x154C
  course := 332
  north := true
  fixValid := true
def lbs26 : LbsRegs := { vLbs := true, mcc := 460, mnc := 0, lac := 10365, cellId := 8120 }

/-- A payload of zeros. -/
def zeros (n : Nat) : List Byte := List.replicate n 0

/-! Ill-formed terms, one for each check of WellFormed, and the greatest well-formed payloads. -/

theorem test_wf_std_payload_too_long : wellFormed (.login (zeros 251) 0 0) = false := by decide +kernel
theorem test_wf_ext_payload_too_long : wellFormed (.loginX (zeros 1018)) = false := by decide +kernel
theorem test_wf_unknown_of_a_known_code : wellFormed (.unknown 0x01 [] 0 0) = false := by decide +kernel
theorem test_wf_unknown_payload_too_long : wellFormed (.unknown 0xFF (zeros 251) 0 0) = false := by decide +kernel
theorem test_wf_unknownX_of_a_known_code : wellFormed (.unknownX 0x99 []) = false := by decide +kernel
theorem test_wf_unknownX_payload_too_long : wellFormed (.unknownX 0xFF (zeros 1018)) = false := by decide +kernel
theorem test_wf_ack_with_another_crc : wellFormed (.ack 0x01 0x0001 0xD9DD) = false := by decide +kernel
theorem test_wf_csr_read_of_the_crc_port : wellFormed (.csrRead 0x30) = false := by decide +kernel
theorem test_wf_csr_write_of_a_command : wellFormed (.csrWrite 0x28 5) = false := by decide +kernel
theorem test_wf_csr_write_of_crc_data : wellFormed (.csrWrite 0x2C 0xFFFFFF05) = false := by decide +kernel
theorem test_wf_csr_write_of_an_ack_request : wellFormed (.csrWrite 0x34 0) = false := by decide +kernel
theorem test_wf_greatest_payloads : wellFormed (.login (zeros 250) 0 0) = true ∧ wellFormed (.loginX (zeros 1017)) = true
    ∧ wellFormed (.csrWrite 0x28 6) = true := by decide +kernel

/-! Decoding: for every row a word written out from the encodings of R61 to R64. -/

theorem test_decode_login :
    decode (.frame login22)
      = .ok (.login [0x08, 0x67, 0x01, 0x00, 0x70, 0x00, 0x15, 0x58, 0x80, 0x75, 0x1F, 0x41] 0x0001 0x2947)
    ∧ decode (.frame [0x79, 0x79, 0x00, 0x09, 0x01, 0x08, 0x67, 0x01, 0x00, 0x70, 0x00, 0x15, 0x58, 0x0D, 0x0A])
      = .ok (.loginX [0x08, 0x67, 0x01, 0x00, 0x70, 0x00, 0x15, 0x58]) := by decide +kernel

theorem test_decode_gps :
    decode (.frame [0x78, 0x78, 0x17, 0x02, 0x18, 0x03, 0x0F, 0x0A, 0x14, 0x1E, 0xC9, 0x02, 0x6B, 0x3F, 0x3E, 0x0C, 0x46, 0x58, 0x49,
        0x3C, 0x15, 0x4C, 0x00, 0x02, 0x51, 0x9B, 0x0D, 0x0A]) = .ok (.gps (g26.take 18) 0x0002 0x519B)
    ∧ decode (.frame [0x79, 0x79, 0x00, 0x02, 0x02, 0x18, 0x0D, 0x0A]) = .ok (.gpsX [0x18]) := by decide +kernel

theorem test_decode_heartbeat :
    decode (.frame [0x78, 0x78, 0x05, 0x03, 0x00, 0x0B, 0xC3, 0x3E, 0x0D, 0x0A]) = .ok (.heartbeat [] 0x000B 0xC33E)
    ∧ decode (.frame [0x79, 0x79, 0x00, 0x01, 0x03, 0x0D, 0x0A]) = .ok (.heartbeatX []) := by decide +kernel

theorem test_decode_gpslbs_std :
    decode (.frame [0x78, 0x78, 0x06, 0x10, 0xAB, 0x12, 0x34, 0x56, 0x78, 0x0D, 0x0A]) = .ok (.gpsLbs10 [0xAB] 0x1234 0x5678)
    ∧ decode (.frame [0x78, 0x78, 0x19, 0x11, 0x18, 0x03, 0x0F, 0x0A, 0x14, 0x1E, 0xC9, 0x02, 0x6B, 0x3F, 0x3E, 0x0C, 0x46, 0x58, 0x49,
        0x3C, 0x15, 0x4C, 0x01, 0xCC, 0x00, 0x11, 0xE1, 0x55, 0x0D, 0x0A]) = .ok (.gpsLbs11 (g26.take 20) 0x0011 0xE155)
    ∧ decode (.frame ([0x78, 0x78, 0x1F, 0x12] ++ g26 ++ [0x00, 0x03, 0x2A, 0x4D, 0x0D, 0x0A])) = .ok (.gpsLbs12 g26 0x0003 0x2A4D)
    ∧ decode (.frame [0x78, 0x78, 0x06, 0x22, 0xAB, 0x12, 0x34, 0x56, 0x78, 0x0D, 0x0A]) = .ok (.gpsLbs22 [0xAB] 0x1234 0x5678)
    ∧ decode (.frame [0x78, 0x78, 0x06, 0xA0, 0xAB, 0x12, 0x34, 0x56, 0x78, 0x0D, 0x0A]) = .ok (.gpsLbsA0 [0xAB] 0x1234 0x5678)
    ∧ decode (.frame ([0x78, 0x78, 0x1F, 0x19] ++ g26 ++ [0x00, 0x19, 0x67, 0x2B, 0x0D, 0x0A])) = .ok (.gpsLbsExt g26 0x0019 0x672B)
    ∧ decode (.frame [0x78, 0x78, 0x0B, 0x1A, 0x18, 0x03, 0x0F, 0x0A, 0x14, 0x1E, 0x00, 0x1A, 0x51, 0x0F, 0x0D, 0x0A])
      = .ok (.gpsLbsData (g26.take 6) 0x001A 0x510F) := by decide +kernel

theorem test_decode_gpslbs_ext :
    decode (.frame [0x79, 0x79, 0x00, 0x02, 0x10, 0xAB, 0x0D, 0x0A]) = .ok (.gpsLbs10X [0xAB])
    ∧ decode (.frame [0x79, 0x79, 0x00, 0x02, 0x11, 0xAB, 0x0D, 0x0A]) = .ok (.gpsLbs11X [0xAB])
    ∧ decode (.frame [0x79, 0x79, 0x00, 0x02, 0x12, 0xAB, 0x0D, 0x0A]) = .ok (.gpsLbs12X [0xAB])
    ∧ decode (.frame [0x79, 0x79, 0x00, 0x02, 0x22, 0xAB, 0x0D, 0x0A]) = .ok (.gpsLbs22X [0xAB])
    ∧ decode (.frame [0x79, 0x79, 0x00, 0x02, 0xA0, 0xAB, 0x0D, 0x0A]) = .ok (.gpsLbsA0X [0xAB])
    ∧ decode (.frame [0x79, 0x79, 0x00, 0x02, 0x19, 0xAB, 0x0D, 0x0A]) = .ok (.gpsLbsExtX [0xAB])
    ∧ decode (.frame [0x79, 0x79, 0x00, 0x02, 0x1A, 0xAB, 0x0D, 0x0A]) = .ok (.gpsLbsDataX [0xAB]) := by decide +kernel

theorem test_decode_status :
    decode (.frame [0x78, 0x78, 0x08, 0x13, 0xC5, 0x01, 0x90, 0x00, 0x06, 0x81, 0x86, 0x0D, 0x0A])
      = .ok (.status [0xC5, 0x01, 0x90] 0x0006 0x8186)
    ∧ decode (.frame [0x79, 0x79, 0x00, 0x03, 0x13, 0xC5, 0x01, 0x0D, 0x0A]) = .ok (.statusX [0xC5, 0x01]) := by decide +kernel

theorem test_decode_alarm :
    decode (.frame [0x78, 0x78, 0x05, 0x16, 0x00, 0x07, 0xB5, 0x7A, 0x0D, 0x0A]) = .ok (.alarm [] 0x0007 0xB57A)
    ∧ decode (.frame [0x79, 0x79, 0x00, 0x02, 0x16, 0x80, 0x0D, 0x0A]) = .ok (.alarmX [0x80]) := by decide +kernel

theorem test_decode_wifi :
    decode (.frame [0x78, 0x78, 0x17, 0x30, 0x18, 0x03, 0x0F, 0x0A, 0x14, 0x1E, 0x02, 0xAA, 0xBB, 0xCC, 0xDD, 0xEE, 0xFF, 0x37, 0x11,
        0x22, 0x33, 0x44, 0x00, 0x08, 0xEE, 0x64, 0x0D, 0x0A])
      = .ok (.wifi [0x18, 0x03, 0x0F, 0x0A, 0x14, 0x1E, 0x02, 0xAA, 0xBB, 0xCC, 0xDD, 0xEE, 0xFF, 0x37, 0x11, 0x22, 0x33, 0x44] 0x0008 0xEE64)
    ∧ decode (.frame [0x79, 0x79, 0x00, 0x02, 0x30, 0x18, 0x0D, 0x0A]) = .ok (.wifiX [0x18]) := by decide +kernel

theorem test_decode_iccid :
    decode (.frame [0x78, 0x78, 0x0F, 0x69, 0x98, 0x41, 0x00, 0x00, 0x00, 0x10, 0x32, 0x54, 0x76, 0x98, 0x00, 0x09, 0x00, 0x42, 0x0D, 0x0A])
      = .ok (.iccid [0x98, 0x41, 0x00, 0x00, 0x00, 0x10, 0x32, 0x54, 0x76, 0x98] 0x0009 0x0042)
    ∧ decode (.frame [0x79, 0x79, 0x00, 0x02, 0x69, 0x98, 0x0D, 0x0A]) = .ok (.iccidX [0x98]) := by decide +kernel

theorem test_decode_opaque_std :
    decode (.frame [0x78, 0x78, 0x07, 0x70, 0x00, 0x01, 0x00, 0x70, 0xD7, 0xF6, 0x0D, 0x0A]) = .ok (.locRep [0x00, 0x01] 0x0070 0xD7F6)
    ∧ decode (.frame [0x78, 0x78, 0x05, 0x8A, 0x00, 0x8A, 0xC6, 0x4D, 0x0D, 0x0A]) = .ok (.statCmd [] 0x008A 0xC64D)
    ∧ decode (.frame [0x78, 0x78, 0x06, 0x94, 0xAB, 0x12, 0x34, 0x56, 0x78, 0x0D, 0x0A]) = .ok (.infoTx [0xAB] 0x1234 0x5678)
    ∧ decode (.frame [0x78, 0x78, 0x06, 0x98, 0xAB, 0x12, 0x34, 0x56, 0x78, 0x0D, 0x0A]) = .ok (.extCmd98 [0xAB] 0x1234 0x5678)
    ∧ decode (.frame [0x78, 0x78, 0x06, 0x99, 0xAB, 0x12, 0x34, 0x56, 0x78, 0x0D, 0x0A]) = .ok (.extCmd99 [0xAB] 0x1234 0x5678)
    ∧ decode (.frame [0x78, 0x78, 0x09, 0xFF, 0xDE, 0xAD, 0xBE, 0xEF, 0x00, 0x0A, 0x68, 0xE6, 0x0D, 0x0A])
      = .ok (.unknown 0xFF [0xDE, 0xAD, 0xBE, 0xEF] 0x000A 0x68E6) := by decide +kernel

theorem test_decode_opaque_ext :
    decode (.frame [0x79, 0x79, 0x00, 0x02, 0x70, 0xAB, 0x0D, 0x0A]) = .ok (.locRepX [0xAB])
    ∧ decode (.frame [0x79, 0x79, 0x00, 0x02, 0x8A, 0xAB, 0x0D, 0x0A]) = .ok (.statCmdX [0xAB])
    ∧ decode (.frame [0x79, 0x79, 0x00, 0x04, 0x94, 0x04, 0x00, 0xAA, 0x0D, 0x0A]) = .ok (.infoTxX [0x04, 0x00, 0xAA])
    ∧ decode (.frame [0x79, 0x79, 0x00, 0x03, 0x98, 0x48, 0x49, 0x0D, 0x0A]) = .ok (.extCmd98X [0x48, 0x49])
    ∧ decode (.frame [0x79, 0x79, 0x00, 0x04, 0x99, 0x4F, 0x4B, 0x23, 0x0D, 0x0A]) = .ok (.extCmd99X [0x4F, 0x4B, 0x23])
    ∧ decode (.frame [0x79, 0x79, 0x00, 0x02, 0xAA, 0xAB, 0x0D, 0x0A]) = .ok (.unknownX 0xAA [0xAB]) := by decide +kernel

theorem test_decode_ports :
    decode (.port (.ack 0x787805_01_0001_D9DC_0D0A)) = .ok (.ack 0x01 0x0001 0xD9DC)
    ∧ decode (.port (.rx 0b1_0111_1000)) = .ok (.rx 0x78 true) ∧ decode (.port (.rx 0b0_0000_1010)) = .ok (.rx 0x0A false)
    ∧ decode (.port (.csr 0x008_FFFFFFFF)) = .ok (.csrRead 0x08) ∧ decode (.port (.csr 0x104_00000003)) = .ok (.csrWrite 0x04 3)
    ∧ decode (.port .recPeek) = .ok .recPeek ∧ decode (.port .ackPeek) = .ok .ackPeek ∧ decode (.port .hreset) = .ok .hreset := by
  decide +kernel

theorem test_decode_commands :
    decode (.port (.csr 0x128_00000001)) = .ok .cmdFlush ∧ decode (.port (.csr 0x128_00000002)) = .ok .cmdSreset
    ∧ decode (.port (.csr 0x128_00000003)) = .ok .cmdCrcInit ∧ decode (.port (.csr 0x128_00000004)) = .ok .cmdPopRec
    ∧ decode (.port (.csr 0x128_00000005)) = .ok .cmdPopAck ∧ decode (.port (.csr 0x128_00000101)) = .ok (.csrWrite 0x28 0x101)
    ∧ decode (.port (.csr 0x12C_FFFFFF05)) = .ok (.crcData 0x05) ∧ decode (.port (.csr 0x030_00000000)) = .ok .crcValue
    ∧ decode (.port (.csr 0x134_00120003)) = .ok (.ackReq 0x12 0x0003) := by decide +kernel

/-- R95, R97 to R100: why the detector's candidates are no frame, and a byte too many. -/
theorem test_decode_rejects :
    decode (.frame [0x78, 0x78]) = .error .needLength ∧ decode (.frame [0x79, 0x79, 0x04, 0x00, 0x01]) = .error .overLength
    ∧ decode (.frame [0x78, 0x78, 0x04, 0x01, 0x00]) = .error .runt ∧ decode (.frame [0x79, 0x79, 0x00, 0x00, 0x0D, 0x0A]) = .error .runt
    ∧ decode (.frame login10.dropLast) = .error .needBody ∧ decode (.frame (login10.dropLast ++ [0x0B])) = .error .badStop
    ∧ decode (.frame (login10 ++ [0x00])) = .error .trailing ∧ decode (.frame [0x78, 0x79, 0x05, 0x01, 0x00]) = .error .noMarker
    ∧ decode (.port (.ack 0x797905_01_0001_D9DC_0D0A)) = .error .notAckFormat := by decide +kernel

/-- The words of the opcode table reach the decoder with the first byte most significant (R80). -/
theorem test_table_words :
    decodeTableWord 32 0x78780501 = some (.login [] 0 0) ∧ decodeTableWord 40 0x7979000199 = some (.extCmd99X [])
    ∧ decodeTableWord 48 0x10400000003 = some (.csrWrite 0x04 3) ∧ decodeTableWord 16 0x178 = some (.rx 0x78 true)
    ∧ decodeTableWord 80 0x78780501_0001_D9DC_0D0A = some (.ack 0x01 0x0001 0xD9DC) ∧ decodeTableWord 32 4 = some .cmdPopRec := by
  decide +kernel

/-! One step of each instruction. -/

/-- T5 and P1. -/
theorem test_login : (recordOf login22).login = { vTid := true, tid := 0x0867010070001558, vDevType := true, devType := 0x8075, vTz := true, tz := 0x1F41 }
    ∧ (recordOf login22).serial = 0x0001 ∧ (recordOf login22).checksum = 0x2947 ∧ (recordOf login22).crcOk = true
    ∧ (recordOf login22).short = false ∧ (received login22).ackq = [login10] ∧ (received login22).head = 22 := by decide +kernel

/-- X2. -/
theorem test_loginX :
    let t := received [0x79, 0x79, 0x00, 0x09, 0x01, 0x08, 0x67, 0x01, 0x00, 0x70, 0x00, 0x15, 0x58, 0x0D, 0x0A]
    t.recq.map (fun r => (r.login.vTid, r.login.vDevType, r.short, r.ext)) = [(true, false, false, true)]
    ∧ t.ackq = [[0x78, 0x78, 0x05, 0x01, 0x00, 0x00, 0xC8, 0x55, 0x0D, 0x0A]] := by decide +kernel

/-- X9. -/
theorem test_gps :
    let r := recordOf ([0x78, 0x78, 0x17, 0x02] ++ g26.take 18 ++ [0x00, 0x02, 0x51, 0x9B, 0x0D, 0x0A])
    r.dt = dt26 ∧ r.gps = gps26 ∧ r.lbs = {} ∧ r.tailOff = 18 ∧ r.tailLen = 0 ∧ r.short = true ∧ r.crcOk = true := by decide +kernel

/-- R135: seventeen bytes hold the date-time and not the GPS group. -/
theorem test_gpsX :
    let r := recordOf ([0x79, 0x79, 0x00, 0x12, 0x02] ++ g26.take 17 ++ [0x0D, 0x0A])
    r.dt = dt26 ∧ r.gps = {} ∧ r.tailOff = 6 ∧ r.tailLen = 11 ∧ r.short = true := by decide +kernel

/-- V5. -/
theorem test_heartbeat :
    let t := received [0x78, 0x78, 0x05, 0x03, 0x00, 0x0B, 0xC3, 0x3E, 0x0D, 0x0A]
    t.recq.map (fun r => (r.payLen, r.print, r.text, r.crcOk, r.ack, r.short)) = [(0, true, false, true, false, false)] ∧ t.ackq = [] := by
  decide +kernel

/-- T7, the shortest extended frame. -/
theorem test_heartbeatX :
    (received [0x79, 0x79, 0x00, 0x01, 0x03, 0x0D, 0x0A]).recq.map (fun r => (r.len, r.proto, r.payLen, r.serial, r.checksum, r.ext))
      = [(1, 0x03, 0, 0, 0, true)] := by decide +kernel

/-- X5: both hemispheres reversed. -/
theorem test_gpsLbs10 :
    let r := recordOf ([0x78, 0x78, 0x1F, 0x10] ++ g26.take 16 ++ [0x08, 0x5A] ++ g26.drop 18 ++ [0x00, 0x05, 0xAE, 0x2D, 0x0D, 0x0A])
    r.gps.course = 90 ∧ r.gps.north = false ∧ r.gps.west = true ∧ r.gps.latUdeg.toInt = -22546097
    ∧ r.gps.lonUdeg.toInt = -114409285 ∧ r.crcOk = true := by decide +kernel

/-- X6. -/
theorem test_gpsLbs11 :
    let t := received ([0x78, 0x78, 0x19, 0x11] ++ g26.take 20 ++ [0x00, 0x11, 0xE1, 0x55, 0x0D, 0x0A])
    t.recq.map (fun r => (r.gps.vGps, r.lbs.vLbs, r.lbs.mcc, r.tailOff, r.tailLen)) = [(true, false, 0, 18, 2)] ∧ t.status = 0x40 := by
  decide +kernel

/-- X4. -/
theorem test_gpsLbs12 :
    let r := recordOf ([0x78, 0x78, 0x1F, 0x12] ++ g26 ++ [0x00, 0x03, 0x2A, 0x4D, 0x0D, 0x0A])
    r.dt = dt26 ∧ r.gps = gps26 ∧ r.lbs = lbs26 ∧ r.tailOff = 26 ∧ r.tailLen = 0 ∧ r.short = false ∧ r.crcOk = true := by decide +kernel

/-- X7: a month out of range. -/
theorem test_gpsLbs22 :
    let t := received ([0x78, 0x78, 0x1F, 0x22, 0x18, 0x0D] ++ g26.drop 2 ++ [0x00, 0x04, 0x0D, 0x11, 0x0D, 0x0A])
    t.recq.map (fun r => (r.dt.vDtp, r.dt.vDt, r.dt.mon, r.gps.vGps, r.lbs.vLbs)) = [(true, false, 13, true, true)]
    ∧ t.status = 0x80 := by decide +kernel

/-- X8. -/
theorem test_gpsLbsA0 :
    let r := recordOf ([0x78, 0x78, 0x24, 0xA0] ++ g26 ++ [0x01, 0x02, 0x03, 0x04, 0x05, 0x00, 0xA0, 0x12, 0x9B, 0x0D, 0x0A])
    r.gps = gps26 ∧ r.lbs = lbs26 ∧ r.tailOff = 26 ∧ r.tailLen = 5 ∧ r.crcOk = true := by decide +kernel

/-- X10. -/
theorem test_gpsLbsExt :
    let t := received ([0x78, 0x78, 0x1F, 0x19] ++ g26 ++ [0x00, 0x19, 0x67, 0x2B, 0x0D, 0x0A])
    t.recq.map (fun r => (r.name, r.ack, r.lbs)) = [(7, true, lbs26)]
    ∧ t.ackq = [[0x78, 0x78, 0x05, 0x19, 0x00, 0x19, 0x06, 0x42, 0x0D, 0x0A]] := by decide +kernel

/-- X11. -/
theorem test_gpsLbsData :
    let r := recordOf ([0x78, 0x78, 0x0B, 0x1A] ++ g26.take 6 ++ [0x00, 0x1A, 0x51, 0x0F, 0x0D, 0x0A])
    r.dt = dt26 ∧ r.gps.vGps = false ∧ r.tailOff = 6 ∧ r.tailLen = 0 ∧ r.short = true ∧ r.name = 8 := by decide +kernel

/-- R143 to R149 in the extended format: the values of G26, no serial number, and an acknowledgement for 0x19 only. -/
theorem test_gpsLbs_ext :
    ∀ p ∈ ([0x10, 0x11, 0x12, 0x22, 0xA0, 0x19, 0x1A] : List Byte),
      let t := received ([0x79, 0x79, 0x00, 0x1B, p] ++ g26 ++ [0x0D, 0x0A])
      t.recq.map (fun r => (r.proto, r.dt, r.gps, r.lbs, r.tailOff, r.short)) = [(p, dt26, gps26, lbs26, 26, false)]
      ∧ t.ackq.length = (if p = 0x19 then 1 else 0) := by decide +kernel

/-- X12. -/
theorem test_status :
    let r := recordOf [0x78, 0x78, 0x08, 0x13, 0xC5, 0x01, 0x90, 0x00, 0x06, 0x81, 0x86, 0x0D, 0x0A]
    r.st.stByte = 0xC5 ∧ r.st.sigLvl = 3 ∧ r.st.oilElec = true ∧ r.st.gpsTracking = false ∧ r.st.charging = true ∧ r.st.volt = 400
    ∧ r.st.vSig = false ∧ r.st.vLang = false ∧ r.short = true := by decide +kernel

/-- The payload of T6 in an extended frame. -/
theorem test_statusX :
    let r := recordOf [0x79, 0x79, 0x00, 0x07, 0x13, 0x05, 0x01, 0x90, 0x04, 0x00, 0x02, 0x0D, 0x0A]
    r.st.oilElec = true ∧ r.st.charging = true ∧ r.st.volt = 400 ∧ r.st.sig = 4 ∧ r.st.lang = 2 ∧ r.short = false ∧ r.ack = false := by
  decide +kernel

/-- X13. -/
theorem test_alarm :
    let t := received ([0x78, 0x78, 0x20, 0x16, 0x09] ++ g26 ++ [0x00, 0x07, 0x8B, 0x0E, 0x0D, 0x0A])
    t.recq.map (fun r => (r.al.alByte, r.al.emergency, r.al.shock, r.gps, r.tailOff, r.short))
      = [(0x09, true, true, gps26, 27, false)]
    ∧ t.ackq = [[0x78, 0x78, 0x05, 0x16, 0x00, 0x07, 0xB5, 0x7A, 0x0D, 0x0A]] := by decide +kernel

/-- The payload of X14 in an extended frame: acknowledged with serial number 0. -/
theorem test_alarmX :
    let t := received ([0x79, 0x79, 0x00, 0x14, 0x16, 0x80] ++ g26.take 18 ++ [0x0D, 0x0A])
    t.recq.map (fun r => (r.al.distance, r.al.idle, r.gps.vGps, r.lbs.vLbs, r.tailOff, r.short)) = [(true, false, true, false, 19, true)]
    ∧ t.ackq.map (fun f => f.take 6) = [[0x78, 0x78, 0x05, 0x16, 0x00, 0x00]] := by decide +kernel

/-- X16. -/
theorem test_wifi :
    let r := recordOf [0x78, 0x78, 0x1A, 0x30, 0x18, 0x03, 0x0F, 0x0A, 0x14, 0x1E, 0x02, 0xAA, 0xBB, 0xCC, 0xDD, 0xEE, 0xFF, 0x37, 0x11, 0x22,
      0x33, 0x44, 0x55, 0x66, 0xC8, 0x00, 0x08, 0xC1, 0xA6, 0x0D, 0x0A]
    r.dt = dt26 ∧ r.wifi.nDecl = 2 ∧ r.wifi.ap = [{ mac := 0xAABBCCDDEEFF, rssi := 55 }, { mac := 0x112233445566, rssi := 200 }]
    ∧ r.short = false := by decide +kernel

/-- The payload of X17 in an extended frame: the last access point is cut short. -/
theorem test_wifiX :
    let r := recordOf [0x79, 0x79, 0x00, 0x13, 0x30, 0x18, 0x03, 0x0F, 0x0A, 0x14, 0x1E, 0x02, 0xAA, 0xBB, 0xCC, 0xDD, 0xEE, 0xFF, 0x37, 0x11,
      0x22, 0x33, 0x44, 0x0D, 0x0A]
    r.wifi = { vWn := true, nDecl := 2, n := 1, ap := [{ mac := 0xAABBCCDDEEFF, rssi := 55 }] } ∧ r.short = true := by decide +kernel

/-- X18. -/
theorem test_iccid :
    let r := recordOf [0x78, 0x78, 0x0F, 0x69, 0x98, 0x41, 0x00, 0x00, 0x00, 0x10, 0x32, 0x54, 0x76, 0x98, 0x00, 0x09, 0x00, 0x42, 0x0D, 0x0A]
    r.iccid = { vIccid := true, dig := [8, 9, 1, 4, 0, 0, 0, 0, 0, 0, 0, 1, 2, 3, 4, 5, 6, 7, 8, 9], iccidDec := true } ∧ r.crcOk = true := by
  decide +kernel

/-- The payload of X19 in an extended frame: a digit above 9. -/
theorem test_iccidX :
    let r := recordOf [0x79, 0x79, 0x00, 0x0B, 0x69, 0x98, 0x41, 0x00, 0x00, 0x00, 0x10, 0x32, 0x54, 0x76, 0xF8, 0x0D, 0x0A]
    r.iccid.dig.drop 18 = [8, 15] ∧ r.iccid.iccidDec = false ∧ r.short = false := by decide +kernel

/-- X20, X21 and V4: no fields; the extended frame is not checked. -/
theorem test_locRep_statCmd_infoTxX :
    let r := recordOf [0x78, 0x78, 0x07, 0x70, 0x00, 0x01, 0x00, 0x70, 0xD7, 0xF6, 0x0D, 0x0A]
    let q := recordOf [0x78, 0x78, 0x05, 0x8A, 0x00, 0x8A, 0xC6, 0x4D, 0x0D, 0x0A]
    let u := received [0x79, 0x79, 0x00, 0x04, 0x94, 0x04, 0x00, 0xAA, 0x0D, 0x0A]
    (r.name = 11 ∧ r.kind = 0 ∧ r.payLen = 2 ∧ r.crcOk = true) ∧ (q.name = 12 ∧ q.payLen = 0 ∧ q.crcOk = true)
    ∧ (u.recq.map (fun x => (x.name, x.crcChk, x.crcOk)) = [(13, false, false)] ∧ u.status = 0) := by decide +kernel

/-- T7, X22 and X23: text is the printable payload of 0x98 and 0x99. -/
theorem test_extended_commands :
    let r := recordOf [0x79, 0x79, 0x00, 0x03, 0x98, 0x48, 0x49, 0x0D, 0x0A]
    let q := recordOf [0x79, 0x79, 0x00, 0x04, 0x98, 0x48, 0x49, 0x0A, 0x0D, 0x0A]
    let p := recordOf [0x79, 0x79, 0x00, 0x04, 0x99, 0x4F, 0x4B, 0x23, 0x0D, 0x0A]
    (r.print = true ∧ r.text = true ∧ payloadChars r = ['H', 'I']) ∧ (q.print = false ∧ q.text = false)
    ∧ (p.text = true ∧ payloadChars p = ['O', 'K', '#']) := by decide +kernel

/-- T8. -/
theorem test_unknown :
    let t := received [0x78, 0x78, 0x09, 0xFF, 0xDE, 0xAD, 0xBE, 0xEF, 0x00, 0x0A, 0x68, 0xE6, 0x0D, 0x0A]
    t.recq.map (fun r => (r.name, r.kind, r.payOff, r.payLen, r.serial, r.crcOk)) = [(0, 0, 4, 4, 0x000A, true)]
    ∧ t.recq.map payloadChars = [['D', 'E', 'A', 'D', 'B', 'E', 'E', 'F']] ∧ t.status = 0 := by decide +kernel

/-- R158 to R163: the remaining rows without fields leave a record of their own name. -/
theorem test_opaque_names_std :
    ([0x94, 0x98, 0x99] : List Byte).map
        (fun c => (received [0x78, 0x78, 0x06, c, 0xAB, 0x12, 0x34, 0x56, 0x78, 0x0D, 0x0A]).recq.map fun r => (r.name, r.payLen, r.text))
      = [[(13, 1, false)], [(14, 1, false)], [(14, 1, false)]] := by decide +kernel

/-- See `test_opaque_names_std`. -/
theorem test_opaque_names_ext :
    ([0x70, 0x8A, 0xAA] : List Byte).map
        (fun c => (received [0x79, 0x79, 0x00, 0x02, c, 0xAB, 0x0D, 0x0A]).recq.map fun r => (r.name, r.payLen, r.text))
      = [[(11, 1, false)], [(12, 1, false)], [(0, 1, false)]] := by decide +kernel

/-- V1 and V2: a checksum that does not match, kept and discarded. -/
theorem test_crc_error :
    let bad := login22.take 19 ++ [0x48, 0x0D, 0x0A]
    let s : State := { State.reset with acc := bad }
    let t := after (exec (.login (bad.drop 4 |>.take 12) 0x0001 0x2948) s)
    let u := after (exec (.login (bad.drop 4 |>.take 12) 0x0001 0x2948) { s with crcEnforce := true })
    (t.recq.map (fun r => (r.checksum, r.crc, r.crcOk)) = [(0x2948, 0x2947, false)] ∧ t.ackq = [login10] ∧ t.status = 0x20
      ∧ t.cntCrcErr = 1 ∧ t.lastErr = 5)
    ∧ (u.recq = [] ∧ u.ackq = [] ∧ u.status = 0x20 ∧ u.cntCrcErr = 1 ∧ u.cntFrames = 1 ∧ u.cntDropped = 0 ∧ u.head = 22) := by
  decide +kernel

/-- F2, F3 and F6: garbage, noise, a runt. -/
theorem test_framing_errors :
    let t := received [0x01, 0x02, 0x03, 0x04, 0x78]
    let u := received [0x00, 0x00, 0x00, 0x78, 0x78]
    let v := received [0x78, 0x78, 0x04, 0x01, 0x00]
    (t.acc = [] ∧ t.head = 5 ∧ t.cntDropped = 5 ∧ t.cntFramErr = 1 ∧ t.status = 0x02 ∧ t.lastErr = 1)
    ∧ (u.acc = [0x78, 0x78] ∧ u.head = 3 ∧ u.cntDropped = 3 ∧ u.cntFramErr = 0 ∧ u.status = 0x01)
    ∧ (v.acc = [0x78, 0x04, 0x01, 0x00] ∧ v.head = 1 ∧ v.cntFramErr = 1 ∧ v.status = 0x10 ∧ v.lastErr = 4) := by decide +kernel

/-- F10 and F14: a bad stop marker, then garbage; noise and an over-length candidate, then a frame. -/
theorem test_framing_errors_in_sequence :
    let t := received (login10.dropLast ++ [0x0B])
    let u := received [0x78, 0x79, 0x79, 0x79, 0x00, 0x03, 0x98, 0x48, 0x49, 0x0D, 0x0A]
    (t.head = 10 ∧ t.cntDropped = 10 ∧ t.cntFramErr = 2 ∧ t.status = 0x06 ∧ t.lastErr = 1 ∧ t.lastOff = 1)
    ∧ (u.recq.map (fun r => (r.offset, r.text)) = [(2, true)] ∧ u.head = 11 ∧ u.cntDropped = 2 ∧ u.status = 0x09 ∧ u.lastErr = 3
      ∧ u.lastOff = 1) := by decide +kernel

/-- P5: the beat after the 2048th overflows; a beat while HALTED is ignored. -/
theorem test_overflow :
    let s : State := { State.reset with acc := zeros 2048 }
    let t := after (exec (.rx 0x00 true) s)
    (t.acc.length = 2048 ∧ t.halted = true ∧ t.status = 0x100 ∧ t.lastErr = 6 ∧ t.lastOff = 2048 ∧ t.cntFramErr = 0)
    ∧ statusWord t = 0x80000100 ∧ after (exec (.rx 0x78 true) t) = t := by decide +kernel

/-- R41: a beat with `last = 0` only appends. -/
theorem test_rx_append : after (exec (.rx 0x0A false) { State.reset with acc := login10.dropLast })
    = { State.reset with acc := login10 } := by decide +kernel

/-- T3 and section 2.5. -/
theorem test_ack :
    (after (exec (.ack 0x01 0x0001 0xD9DC) State.reset)).result = .built login10
    ∧ (after (exec (.ack 0xFF 0xFFFF 0xA4C2) State.reset)).result = .built [0x78, 0x78, 0x05, 0xFF, 0xFF, 0xFF, 0xA4, 0xC2, 0x0D, 0x0A] := by
  decide +kernel

/-- H1. -/
theorem test_csr_read :
    ([0x00, 0x04, 0x08, 0x0C, 0x10, 0x14, 0x18, 0x1C, 0x20, 0x24, 0x28, 0x2C, 0x30, 0x34, 0x38, 0x3C] : List Byte).map
        (fun a => (after (exec (.csrRead a) State.reset)).result)
      = [.word 0x46564531, .word 2, .word 0, .word 0, .word 0, .word 0, .word 0, .word 0, .word 0, .word 0, .word 0, .word 0, .word 0, .word 0,
        .word 0, .word 0] := by decide +kernel

/-- Each counter at its own offset (R195). -/
theorem test_csr_read_offsets :
    let s : State := { State.reset with head := 1, cntFrames := 2, cntDropped := 3, cntFramErr := 4, cntCrcErr := 5, lastErr := 6, lastOff := 7 }
    ([0x10, 0x14, 0x18, 0x1C, 0x20, 0x38, 0x3C, 0x40, 0x05] : List Byte).map (fun a => csrValue a s) = [1, 2, 3, 4, 5, 6, 7, 0, 0] := by
  decide +kernel

/-- H2 to H5. -/
theorem test_csr_write :
    ctrlWord (after (exec (.csrWrite 0x04 0xFFFFFFFF) State.reset)) = 3 ∧ after (exec (.csrWrite 0x00 0x12345678) State.reset) = State.reset
    ∧ after (exec (.csrWrite 0x40 1) State.reset) = State.reset ∧ after (exec (.csrWrite 0x28 6) State.reset) = State.reset
    ∧ after (exec (.csrWrite 0x28 0x101) State.reset) = State.reset := by decide +kernel

/-- H6. -/
theorem test_csr_write_status : (after (exec (.csrWrite 0x08 2) { State.reset with status := 6 })).status = 4 := by decide +kernel

/-- H9 and H10. -/
theorem test_flush :
    let t := after (exec .cmdFlush { received login22 with acc := [0x78], halted := true })
    t.acc = [] ∧ t.head = 0 ∧ t.halted = false ∧ qstatWord t = 1 ∧ t.cntFrames = 1 := by decide +kernel

/-- H11 and section 2.8. -/
theorem test_resets :
    after (exec .cmdSreset (received login22)) = State.reset ∧ after (exec .hreset (received login22)) = State.reset := by decide +kernel

/-- H8, and the pops of P3's drain. -/
theorem test_pops :
    after (exec .cmdPopRec State.reset) = State.reset ∧ after (exec .cmdPopAck State.reset) = State.reset
    ∧ qstatWord (after (exec .cmdPopRec (received login22))) = 2 ∧ qstatWord (after (exec .cmdPopAck (received login22))) = 1 := by
  decide +kernel

/-- P6. -/
theorem test_crc_port :
    (after (exec (.crcData 0x31) State.reset)).crcReg = 0x2F8D ∧ (after (exec (.csrWrite 0x2C 0xFFFFFF05) State.reset)).crcReg = 0x582A
    ∧ (after (exec .crcValue { State.reset with crcReg := 0x6F91 })).result = .word 0x906E
    ∧ (after (exec .cmdCrcInit { State.reset with crcReg := 0x6F91 })).crcReg = 0xFFFF := by decide +kernel

/-- H7. -/
theorem test_ack_request :
    let t := after (exec (.ackReq 0x12 0x0003) State.reset)
    qstatWord t = 2 ∧ (after (exec .ackPeek t)).result = .ackFrame (some [0x78, 0x78, 0x05, 0x12, 0x00, 0x03, 0x90, 0x3F, 0x0D, 0x0A]) := by
  decide +kernel

theorem test_peeks :
    (after (exec .recPeek State.reset)).result = .record none ∧ (after (exec .ackPeek State.reset)).result = .ackFrame none
    ∧ (after (exec .recPeek (received login22))).result = .record (some (recordOf login22)) := by decide +kernel

/-- Section 2.4. -/
theorem test_crc16 :
    crc16 [0x05, 0x01, 0x00, 0x01] = 0xD9DC ∧ crc16 [0x05, 0x01, 0x00, 0x01, 0xD9, 0xDC] = 0x2652
    ∧ crc16 [0x05, 0x01, 0x00, 0x01, 0xDC, 0xD9] = 0x0F47
    ∧ [0x00, 0x01, 0x02, 0x40, 0x80, 0xFF].map (fun k => crcTable.getD k 0) = [0x0000, 0x1189, 0x2312, 0x4204, 0x8408, 0x0F78] := by
  decide +kernel

/-- Section 2.3, `Udeg` alone. -/
theorem test_udeg :
    [0, 1, 2, 3, 9, 162000000, 324000000, 0x026B3F3E, 0x0C465849, 0x0C702F84, 0xFFFFFFFF].map udeg
      = [0, 1, 1, 2, 5, 90000000, 180000000, 22546097, 114409285, 115932660, 2386092942] := by decide +kernel

/-- A step of a placed opcode-table word runs that row's instruction. -/
theorem test_with_fetch_word :
    (after (step (State.reset.withFetchWord 32 0x78780501))).cntFrames = 1 ∧ (after (step (State.reset.withFetchWord 48 0x10400000003))).crcEnforce = true
    ∧ refusalOf (step (State.reset.withFetchWord 80 0)) = some (.undecodable .notAckFormat) := by decide +kernel

/-! Witnesses: for every statement with hypotheses, states and operands that meet them, each clause at a boundary value. -/

/-- LOGIN22 as an instruction. -/
def loginI : Instr := .login [0x08, 0x67, 0x01, 0x00, 0x70, 0x00, 0x15, 0x58, 0x80, 0x75, 0x1F, 0x41] 0x0001 0x2947

/-- The shortest EXT frame of HEARTBEAT (T7). -/
def heartbeat7 : List Byte := [0x79, 0x79, 0x00, 0x01, 0x03, 0x0D, 0x0A]

/-- LOGIN22 with another checksum (V1). -/
def badLogin : List Byte := login22.take 19 ++ [0x48, 0x0D, 0x0A]
def badLoginI : Instr := .login [0x08, 0x67, 0x01, 0x00, 0x70, 0x00, 0x15, 0x58, 0x80, 0x75, 0x1F, 0x41] 0x0001 0x2948

/-- A state with bytes in ACC. -/
def withAcc (acc : List Byte) : State := { State.reset with acc := acc }

/-- A state with pending operations. -/
def withInbox (inbox : List PortWord) : State := { State.reset with inbox := inbox }

theorem isFrame_login22 : IsFrame loginI login22 := ⟨by decide +kernel, by decide +kernel⟩
theorem isFrame_login10 : IsFrame (.login [] 0x0001 0xD9DC) login10 := ⟨by decide +kernel, by decide +kernel⟩
theorem isFrame_heartbeat7 : IsFrame (.heartbeatX []) heartbeat7 := ⟨by decide +kernel, by decide +kernel⟩
theorem isFrame_badLogin : IsFrame badLoginI badLogin := ⟨by decide +kernel, by decide +kernel⟩
theorem isFrame_unknown : IsFrame (.unknown 0xFF [] 0 0) (stdFrame 0xFF [] 0 0) := ⟨by decide +kernel, rfl⟩
theorem isFrame_longest : IsFrame (.infoTxX (zeros 1017)) (extFrame 0x94 (zeros 1017)) := ⟨by decide +kernel, rfl⟩

/-- With `CRC_ENFORCE = 0` every frame is accepted; with `CRC_ENFORCE = 1` a frame whose checksum matches. -/
theorem accepted_open (i : Instr) : accepted State.reset i := fun h => by cases h
theorem accepted_enforced : accepted { State.reset with crcEnforce := true } loginI := fun _ => by decide +kernel

theorem test_witness_decodeEncodeAgree :
    wellFormed (.login (zeros 250) 0xFFFF 0) = true ∧ wellFormed (.alarmX (zeros 1017)) = true ∧ wellFormed (.unknown 0xFF [] 0 0) = true
    ∧ wellFormed (.unknownX 0x00 []) = true ∧ wellFormed (.ack 0x01 0x0001 0xD9DC) = true ∧ wellFormed (.csrRead 0x2C) = true
    ∧ wellFormed (.csrWrite 0x28 0) = true ∧ wellFormed (.rx 0xFF true) = true := by decide +kernel

theorem test_witness_frameAtTheHeadIsDecoded :
    IsFrame loginI login22 ∧ IsFrame (.heartbeatX []) heartbeat7 ∧ IsFrame (.infoTxX (zeros 1017)) (extFrame 0x94 (zeros 1017)) :=
  ⟨isFrame_login22, isFrame_heartbeat7, isFrame_longest⟩

theorem test_witness_decodedFrameStoodAtTheHead :
    decodeFrame (login10 ++ [0x78]) = .ok (.login [] 0x0001 0xD9DC, [0x78]) ∧ decodeFrame heartbeat7 = .ok (.heartbeatX [], []) := by
  decide +kernel

theorem test_witness_rowIsChosenByFormatAndCode :
    IsFrame (.login [] 0x0001 0xD9DC) login10 ∧ IsFrame (.heartbeatX []) heartbeat7 ∧ IsFrame (.unknown 0xFF [] 0 0) (stdFrame 0xFF [] 0 0) :=
  ⟨isFrame_login10, isFrame_heartbeat7, isFrame_unknown⟩

theorem test_witness_hostWordsDecode :
    (0x2F : Byte) ≠ 0x30 ∧ (0x31 : Byte) ≠ 0x30 ∧ (0x04 : Byte) ≠ 0x28 ∧ (0x04 : Byte) ≠ 0x2C ∧ (0x04 : Byte) ≠ 0x34 := by decide

theorem test_witness_protocolCodeMap : ∀ p ∈ ([0x00, 0xFF] : List Byte), ∀ row ∈ codeMap, row.1 ≠ p := by
  simp [codeMap]

theorem test_witness_stepRunsTheDecodedOperation :
    (withInbox [.rx 0x178, .hreset]).inbox = .rx 0x178 :: [.hreset] ∧ decodePort (.rx 0x178) = .ok (.rx 0x78 true)
    ∧ (withInbox []).inbox = [] ∧ (withInbox [.ack 0]).inbox = .ack 0 :: [] ∧ decodePort (.ack 0) = .error .notAckFormat := by decide +kernel

theorem test_witness_onlyAWordThatIsNoAckStops :
    (∀ (f : BitVec 80) (rest : List PortWord), (withInbox [.ack 0x78780501_0001_D9DC_0D0A]).inbox = .ack f :: rest →
      f.extractLsb' 56 24 = 0x787805 ∧ f.extractLsb' 0 16 = 0x0D0A)
    ∧ (withInbox [.ack 0]).inbox = .ack 0 :: [] ∧ ¬ ((0 : BitVec 80).extractLsb' 56 24 = 0x787805 ∧ (0 : BitVec 80).extractLsb' 0 16 = 0x0D0A) := by
  refine ⟨?_, rfl, by decide⟩
  intro f rest h
  cases h
  decide

theorem test_witness_frameReceivedIsExecuted :
    IsFrame loginI login22 ∧ (withAcc login22.dropLast).halted = false ∧ (withAcc login22.dropLast).acc = login22.dropLast :=
  ⟨isFrame_login22, rfl, rfl⟩

/-- The four cases: HALTED; full; room for one byte, both values of `last`. -/
theorem test_witness_receiveBeat :
    { State.reset with halted := true }.halted = true
    ∧ (withAcc (zeros 2048)).halted = false ∧ (withAcc (zeros 2048)).acc.length = cfg.accCap
    ∧ (withAcc (zeros 2047)).halted = false ∧ (withAcc (zeros 2047)).acc.length ≠ cfg.accCap := by decide +kernel

theorem test_witness_loopGuard : (withAcc (zeros 4)).acc.length < 5 := by decide +kernel

theorem test_witness_markerScanAndGarbage : 5 ≤ [0x01, 0x02, 0x03, 0x04, (0x78 : Byte)].length ∧ ∀ k, ¬ isPair [0x01, 0x02, 0x03, 0x04, 0x78] k := by
  refine ⟨by decide, ?_⟩
  rintro k ⟨hk, h⟩
  simp only [List.length_cons, List.length_nil] at hk
  have : k < 4 := by omega
  interval_cases k <;> exact absurd h (by decide)

theorem test_witness_noiseResynchronization :
    (5 ≤ login10.length ∧ isPair login10 0 ∧ ∀ j < 0, ¬ isPair login10 j)
    ∧ (5 ≤ [0x00, 0x00, 0x00, 0x79, (0x79 : Byte)].length ∧ isPair [0x00, 0x00, 0x00, 0x79, 0x79] 3
      ∧ ∀ j < 3, ¬ isPair [0x00, 0x00, 0x00, 0x79, 0x79] j) := by
  unfold isPair
  decide

/-- A candidate for each of the six outcomes, both formats. -/
theorem test_witness_candidateOutcomes :
    (isPair [0x78, 0x78] 0 ∧ [0x78, (0x78 : Byte)].length < lengthNeed [0x78, 0x78])
    ∧ (isPair [0x79, 0x79, 0x03, 0xFB] 0 ∧ cfg.maxFrameLen < total [0x79, 0x79, 0x03, 0xFB])
    ∧ (isPair [0x78, 0x78, 0x04] 0 ∧ declared [0x78, 0x78, 0x04] < leastLength [0x78, 0x78, 0x04])
    ∧ (isPair login10.dropLast 0 ∧ login10.dropLast.length < total login10.dropLast)
    ∧ (isPair (login10.dropLast ++ [0x0B]) 0 ∧ byteAt (login10.dropLast ++ [0x0B]) 9 ≠ 0x0A)
    ∧ (isPair login10 0 ∧ total login10 = 10 ∧ byteAt login10 8 = 0x0D ∧ byteAt login10 9 = 0x0A) := by
  unfold isPair
  decide +kernel

theorem test_witness_whatADrainLeaves :
    zeros 1025 ≠ [] ∧ (zeros 1025).length ≤ cfg.accCap - cfg.maxFrameLen + 1
    ∧ (withAcc (zeros 1023)).acc.length ≤ cfg.maxFrameLen - 1 ∧ (withAcc (zeros 1023)).halted = false := by decide +kernel

theorem test_witness_chunkIsItsBeats :
    (withInbox (chunkWords login10 ++ [.hreset])).inbox = chunkWords login10 ++ [.hreset] := rfl

/-- Two frames cut inside the marker, inside the body, and with an empty chunk. -/
theorem test_witness_reassemblyIdempotence :
    (∀ i ∈ [loginI, .heartbeatX []], ∃ F, IsFrame i F)
    ∧ [login22.take 1, login22.drop 1 |>.take 5, [], login22.drop 6 ++ heartbeat7].flatten = [loginI, .heartbeatX []].flatMap frameBytes
    ∧ (∀ c ∈ [login22.take 1, login22.drop 1 |>.take 5, [], login22.drop 6 ++ heartbeat7], c.length ≤ cfg.accCap - cfg.maxFrameLen + 1)
    ∧ State.reset.acc = [] ∧ State.reset.halted = false := by
  refine ⟨?_, by decide +kernel, by decide +kernel, rfl, rfl⟩
  intro i hi
  simp only [List.mem_cons, List.not_mem_nil, or_false] at hi
  rcases hi with rfl | rfl
  · exact ⟨_, isFrame_login22⟩
  · exact ⟨_, isFrame_heartbeat7⟩

theorem test_witness_resynchronization :
    IsFrame (.login [] 0x0001 0xD9DC) login10 ∧ (∀ k < 4, ¬ isPair ([0xAA, 0xBB, 0xCC, 0xDD] ++ login10.take 1) k)
    ∧ (∀ k < 0, ¬ isPair ([] ++ login10.take 1) k) ∧ 4 + login10.length ≤ cfg.accCap := by
  refine ⟨isFrame_login10, ?_, ?_, by decide⟩ <;> unfold isPair <;> decide

theorem step_recPeek (s : State) :
    step { s with inbox := [.recPeek] } = .next { s with inbox := [], result := .record s.recq.head? } := rfl

theorem test_witness_stepKeepsStateOk :
    stateOk { received login22 with inbox := [.recPeek] } = true
    ∧ step { received login22 with inbox := [.recPeek] } = .next { received login22 with inbox := [], result := .record (received login22).recq.head? } := by
  exact ⟨by decide +kernel, step_recPeek _⟩

/-- HALTED left by FLUSH and by HRESET, set by a beat, kept by a beat. -/
theorem test_witness_haltedIsSetByOverflowOnly :
    (exec .cmdFlush { State.reset with halted := true } = .next State.reset ∧ State.reset.halted = false)
    ∧ (exec .hreset { State.reset with halted := true } = .next State.reset ∧ isReset .hreset)
    ∧ (exec (.rx 0x00 false) (withAcc (zeros 2048)) = .next (rx 0x00 false (withAcc (zeros 2048)))
      ∧ (withAcc (zeros 2048)).halted = false ∧ (rx 0x00 false (withAcc (zeros 2048))).halted = true)
    ∧ exec (.rx 0x78 true) { State.reset with halted := true } = .next { State.reset with halted := true } :=
  ⟨⟨rfl, rfl⟩, ⟨rfl, .inl rfl⟩, ⟨rfl, rfl, by decide +kernel⟩, rfl⟩

theorem test_witness_accumulatorIsAppendedAndDropped :
    (State.reset.acc.length ≤ cfg.accCap ∧ exec (.rx 0x78 false) State.reset = .next (withAcc [0x78]))
    ∧ ((withAcc (zeros 2048)).acc.length ≤ cfg.accCap ∧ exec .cmdFlush (withAcc (zeros 2048)) = .next State.reset) := by
  refine ⟨⟨by decide, rfl⟩, by decide +kernel, rfl⟩

/-- An operation that writes each of the five kinds of control state, none of them a reset. -/
theorem test_witness_onlyTheseOperationsWriteTheControlState :
    (¬ isReset (.crcData 0x31) ∧ exec (.crcData 0x31) State.reset = .next (crcFeed 0x31 State.reset) ∧ (crcFeed 0x31 State.reset).crcReg ≠ 0xFFFF)
    ∧ (¬ isReset (.csrWrite 0x04 3) ∧ exec (.csrWrite 0x04 3) State.reset = .next (csrStore 0x04 3 State.reset)
      ∧ (csrStore 0x04 3 State.reset).crcEnforce ≠ State.reset.crcEnforce)
    ∧ (¬ isReset badLoginI ∧ exec badLoginI (withAcc badLogin) = .next (runFrame badLoginI (withAcc badLogin))
      ∧ (runFrame badLoginI (withAcc badLogin)).cntCrcErr ≠ 0 ∧ (runFrame badLoginI (withAcc badLogin)).lastErr ≠ 0)
    ∧ (¬ isReset (.rx 0x78 true) ∧ exec (.rx 0x78 true) (withAcc (zeros 4)) = .next (rx 0x78 true (withAcc (zeros 4)))
      ∧ (rx 0x78 true (withAcc (zeros 4))).cntDropped ≠ 0) := by
  unfold isReset
  exact ⟨⟨by decide, rfl, by decide +kernel⟩, ⟨by decide, rfl, by decide +kernel⟩, ⟨by decide, rfl, by decide +kernel, by decide +kernel⟩,
    ⟨by decide, rfl, by decide +kernel⟩⟩

/-- An append, a pop, a reset and a flush. -/
theorem test_witness_queuesAreFirstInFirstOut :
    exec loginI (withAcc login22) = .next (runFrame loginI (withAcc login22)) ∧ (runFrame loginI (withAcc login22)).recq ≠ []
    ∧ exec .cmdPopRec (received login22) = .next (popRec (received login22)) ∧ exec .cmdPopAck (received login22) = .next (popAck (received login22))
    ∧ exec .hreset (received login22) = .next (resetBlock (received login22)) ∧ exec .cmdFlush (received login22) = .next (flush (received login22)) :=
  ⟨rfl, by decide +kernel, rfl, rfl, rfl, rfl⟩

theorem test_witness_everyByteIsYieldedOrDropped :
    (withAcc (zeros 2047)).halted = false ∧ (withAcc (zeros 2047)).acc.length ≠ cfg.accCap ∧ (withAcc (zeros 2047)).crcEnforce = false
    ∧ State.reset.halted = false ∧ State.reset.acc.length ≠ cfg.accCap ∧ State.reset.crcEnforce = false := by decide +kernel

/-- An accumulator that is one byte short of a record, and one that is one byte short of full. -/
theorem test_witness_recordsAndAcksInFrameOrder :
    (withAcc login22.dropLast).halted = false ∧ (withAcc login22.dropLast).acc.length < cfg.accCap ∧ (withAcc login22.dropLast).crcEnforce = false
    ∧ (rx 0x0A true (withAcc login22.dropLast)).recq ≠ [] ∧ (withAcc (zeros 2047)).acc.length < cfg.accCap := by decide +kernel

/-- A frame that matches, one that does not and is kept, one that does not and is discarded; an EXT frame. -/
theorem test_witness_frameInstructionEffect :
    (IsFrame loginI login22 ∧ (withAcc (login22 ++ [0x01])).acc = login22 ++ [0x01] ∧ badChecksum login22 = false)
    ∧ (IsFrame badLoginI badLogin ∧ (withAcc badLogin).acc = badLogin ++ [] ∧ badChecksum badLogin = true ∧ (withAcc badLogin).crcEnforce = false)
    ∧ ({ withAcc badLogin with crcEnforce := true }.acc = badLogin ++ [] ∧ { withAcc badLogin with crcEnforce := true }.crcEnforce = true)
    ∧ (IsFrame (.heartbeatX []) heartbeat7 ∧ (withAcc heartbeat7).acc = heartbeat7 ++ [] ∧ badChecksum heartbeat7 = false) :=
  ⟨⟨isFrame_login22, rfl, by decide +kernel⟩, ⟨isFrame_badLogin, by decide +kernel, by decide +kernel, rfl⟩, ⟨by decide +kernel, rfl⟩,
    ⟨isFrame_heartbeat7, rfl, by decide +kernel⟩⟩

theorem test_witness_commonFieldsOfEveryFrame :
    (IsFrame loginI login22 ∧ accepted State.reset loginI ∧ accepted { State.reset with crcEnforce := true } loginI)
    ∧ (IsFrame (.heartbeatX []) heartbeat7 ∧ accepted State.reset (.heartbeatX []))
    ∧ (IsFrame (.infoTxX (zeros 1017)) (extFrame 0x94 (zeros 1017)) ∧ accepted State.reset (.infoTxX (zeros 1017))) :=
  ⟨⟨isFrame_login22, accepted_open _, accepted_enforced⟩, ⟨isFrame_heartbeat7, accepted_open _⟩, ⟨isFrame_longest, accepted_open _⟩⟩

/-- The lengths at which R140 finds the identifier, the device type and the timezone, and one less. -/
theorem test_witness_loginFields :
    ([0, 7, 8, 9, 10, 11, 12, 250].all fun n => wellFormed (.login (zeros n) 0 0) && wellFormed (.loginX (zeros n))) = true
    ∧ ∀ i, accepted State.reset i := ⟨by decide +kernel, accepted_open⟩

/-- The lengths at which R135 finds each group, and one less. -/
theorem test_witness_gpsLbsFields :
    ([0, 5, 6, 17, 18, 25, 26, 250].all fun n => (gpsLbsRows (zeros n) 0 0).all fun row => wellFormed row.1) = true
    ∧ ∀ i, accepted State.reset i := ⟨by decide +kernel, accepted_open⟩

theorem test_witness_alarmFields :
    ([0, 1, 6, 7, 18, 19, 26, 27, 250].all fun n => wellFormed (.alarm (zeros n) 0 0) && wellFormed (.alarmX (zeros n))) = true
    ∧ ∀ i, accepted State.reset i := ⟨by decide +kernel, accepted_open⟩

theorem test_witness_statusFields :
    ([0, 1, 2, 3, 4, 5, 6, 250].all fun n => wellFormed (.status (zeros n) 0 0) && wellFormed (.statusX (zeros n))) = true
    ∧ ∀ i, accepted State.reset i := ⟨by decide +kernel, accepted_open⟩

theorem test_witness_wifiFields :
    ([0, 5, 6, 7, 13, 14, 250].all fun n => wellFormed (.wifi (zeros n) 0 0) && wellFormed (.wifiX (zeros n))) = true
    ∧ ∀ i, accepted State.reset i := ⟨by decide +kernel, accepted_open⟩

theorem test_witness_iccidFields :
    ([0, 9, 10, 250].all fun n => wellFormed (.iccid (zeros n) 0 0) && wellFormed (.iccidX (zeros n))) = true
    ∧ ∀ i, accepted State.reset i := ⟨by decide +kernel, accepted_open⟩

theorem test_witness_opaqueFields :
    ([0, 1, 250].all fun n => (opaqueRows 0xFF (zeros n) 0 0).all fun row => wellFormed row.1) = true
    ∧ ∀ i, accepted State.reset i := ⟨by decide +kernel, accepted_open⟩

theorem test_witness_recordDependsOnTheFrameOnly :
    let s : State := { withAcc login22 with head := 7, cntFrames := 3, ackEn := false }
    let t := runFrame loginI s
    let u := runFrame loginI (withAcc login22)
    IsFrame loginI login22 ∧ exec loginI s = .next t ∧ t.recq = s.recq ++ [t.recq.headD {}]
    ∧ exec loginI (withAcc login22) = .next u ∧ u.recq = (withAcc login22).recq ++ [u.recq.headD {}] :=
  ⟨isFrame_login22, rfl, by decide +kernel, rfl, by decide +kernel⟩

theorem test_witness_udegIsTheNearestInteger : (0 : Int) ≠ udeg (1 : Word).toNat ∧ (2 : Int) ≠ udeg (1 : Word).toNat := by decide +kernel

theorem test_witness_crcProperties : (0x00 : Byte) ≠ 0x01 ∧ (0x7F : Byte) ≠ 0xFF := by decide

theorem test_witness_directPortComputesTheCrc :
    ∀ i ∈ [.crcData 0x05, .rx 0x78 false, .crcData 0x01, .rx 0x78 true], isCrcData i = true ∨ isBeat i = true := by decide

theorem test_witness_ackRowIsTheBuilder : wellFormed (.ack 0x01 0x0001 0xD9DC) = true := by decide +kernel

/-- Every event of R215 has its row. -/
theorem test_witness_eventEffect : eventTable.map (·.1) = [.noise, .garbage, .badStop, .overLen, .runt, .crcErr, .short, .badDate, .ovf] := rfl

/-- A full accumulator; offsets that read as 0. -/
theorem test_witness_csrReadMap :
    (withAcc (zeros 2048)).acc.length ≤ cfg.accCap ∧ 0x40 ≤ (0x40 : Byte).toNat ∧ (0x3D : Byte).toNat % 4 ≠ 0 ∧ (0x3F : Byte).toNat % 4 ≠ 0 := by
  decide +kernel

/-- CMD words with no command; offsets where a write does nothing. -/
theorem test_witness_csrWriteMap :
    ((0x00000101 : Word).extractLsb' 8 24 ≠ 0 ∧ (0 : Word).extractLsb' 0 8 = 0 ∧ 6 ≤ ((6 : Word).extractLsb' 0 8).toNat)
    ∧ (0x00 : Byte) ≠ 0x04 ∧ (0x00 : Byte) ≠ 0x08 ∧ (0x00 : Byte) ≠ 0x28 ∧ (0x00 : Byte) ≠ 0x2C ∧ (0x00 : Byte) ≠ 0x34 := by decide

theorem test_witness_commands : State.reset.recq = [] ∧ State.reset.ackq = [] := ⟨rfl, rfl⟩

theorem test_witness_peeksReturnTheHeads :
    stateOk (received login22) = true ∧ (received login22).ackq.head? = some login10 ∧ State.reset.recq.head? = none
    ∧ State.reset.ackq.head? = none := by decide +kernel

end Sys2Proof.Tests
end

section
/-! What an instruction and a step answer (00_scope R4, R5), and the parameters of the block (R6). -/

namespace Sys2Proof.Machine

/-- The state an instruction leaves: a host operation's own (R90, R178 to R203, R240), or the yield of a frame row. -/
def stateAfter (i : Instr) (s : State) : State :=
  match i with
  | .ack proto serial _ => answer (.built (buildAck serial proto)) s
  | .rx data last => rx data last s
  | .csrRead offset => answer (.word (csrValue offset s)) s
  | .csrWrite offset value => csrStore offset value s
  | .cmdFlush => flush s
  | .cmdSreset => resetBlock s
  | .cmdCrcInit => crcRestart s
  | .cmdPopRec => popRec s
  | .cmdPopAck => popAck s
  | .crcData data => crcFeed data s
  | .crcValue => answer (.word (crcValueWord s)) s
  | .ackReq proto serial => ackRequest proto serial s
  | .recPeek => answer (.record (peekRec s)) s
  | .ackPeek => answer (.ackFrame (peekAck s)) s
  | .hreset => resetBlock s
  | frame => runFrame frame s

/-- Each of the 55 arms of `exec` is a next state; none is a fault or a refusal (R122, R255). -/
theorem exec_eq_next (i : Instr) (s : State) : exec i s = .next (stateAfter i s) := by
  cases i <;> rfl

theorem exec_completes (i : Instr) (s : State) : ∃ t, exec i s = .next t := ⟨_, exec_eq_next i s⟩

/-! The decoder of port words: only an ACK word can be turned away. -/

/-- The fixed bytes of an 80-bit ACK frame: 78 78 05 in front, 0D 0A behind (R63). -/
def HasAckFormat (f : BitVec 80) : Prop := f.extractLsb' 56 24 = 0x787805 ∧ f.extractLsb' 0 16 = 0x0D0A

theorem decodeAck_of_format {f : BitVec 80} (h : HasAckFormat f) :
    decodeAck f = .ok (.ack (f.extractLsb' 48 8) (f.extractLsb' 32 16) (f.extractLsb' 16 16)) := if_pos h

theorem decodeAck_of_not_format {f : BitVec 80} (h : ¬ HasAckFormat f) : decodeAck f = .error .notAckFormat := if_neg h

theorem decodePort_completes (w : PortWord) (h : ∀ f, w = .ack f → HasAckFormat f) : ∃ i, decodePort w = .ok i := by
  cases w with
  | ack f => exact ⟨_, decodeAck_of_format (h f rfl)⟩
  | rx _ | csr _ | recPeek | ackPeek | hreset => exact ⟨_, rfl⟩

/-! The three cases of a step: nothing pending, a word that decodes, a word that does not. -/

theorem step_of_inbox_nil {s : State} (h : s.inbox = []) : step s = .next s := by
  simp [step, nextWord, h]

theorem step_of_decoded {s : State} {w : PortWord} {rest : List PortWord} {i : Instr} (hs : s.inbox = w :: rest)
    (hw : decodePort w = .ok i) : step s = exec i { s with inbox := rest } := by
  simp [step, nextWord, hs, hw]

theorem step_of_undecodable {s : State} {w : PortWord} {rest : List PortWord} {why : DecodeReject} (hs : s.inbox = w :: rest)
    (hw : decodePort w = .error why) : step s = .refused (.undecodable why) := by
  simp [step, nextWord, hs, hw]

theorem step_completes (s : State) (h : ∀ f rest, s.inbox = .ack f :: rest → HasAckFormat f) : ∃ t, step s = .next t := by
  cases hs : s.inbox with
  | nil => exact ⟨s, step_of_inbox_nil hs⟩
  | cons w rest =>
    have hformat : ∀ f, w = .ack f → HasAckFormat f := fun f hf => h f rest (hf ▸ hs)
    obtain ⟨i, hi⟩ := decodePort_completes w hformat
    obtain ⟨t, ht⟩ := exec_completes i { s with inbox := rest }
    exact ⟨t, (step_of_decoded hs hi).trans ht⟩

/-! The two code sets of R6. -/

theorem mem_ackSet (p : Byte) : p ∈ cfg.ackSet ↔ p = 0x01 ∨ p = 0x16 ∨ p = 0x19 := by
  simp [cfg]

theorem mem_textSet (p : Byte) : p ∈ cfg.textSet ↔ p = 0x98 ∨ p = 0x99 := by
  simp [cfg]

/-- Settles O9: `exec` has no other answer than a next state, so a step can be turned away by the decoder only. -/
theorem onlyAWordThatIsNoAckStops : Obligations.OnlyAWordThatIsNoAckStops :=
  ⟨exec_completes, step_completes, fun _ _ _ hs hf => step_of_undecodable hs (decodeAck_of_not_format hf)⟩

/-- Settles O8, by the three cases of a step. -/
theorem stepRunsTheDecodedOperation : Obligations.StepRunsTheDecodedOperation :=
  ⟨fun _ _ _ _ => step_of_decoded, fun _ => step_of_inbox_nil, fun _ _ _ _ => step_of_undecodable⟩

/-- Settles O26: the values by evaluation of `cfg`, the constraints of R6 and R243 by the proofs that `Config` carries. -/
theorem instanceParameters : Obligations.InstanceParameters :=
  ⟨rfl, rfl, mem_ackSet, mem_textSet, fun _ => rfl, rfl, cfg.minFrame, cfg.maxFrame, cfg.fits⟩

end Sys2Proof.Machine
end

section
/-! What an instruction can do to the state, said once for all 55 rows, and what a beat and the detector can do. -/

namespace Sys2Proof.Machine

open Sys2Proof.Claims Relation

/-! The rows by their effect. -/

/-- What instruction `i` makes of a state, rows of equal effect together (R90, R101, R178 to R204, R240). -/
inductive Effect (i : Instr) (s : State) : State → Prop
  /-- One of the forty frame rows: its bytes leave ACC and it is decoded. -/
  | yield {extract : Record → Record} {common : Record} {total : Nat} (hrow : rowOf i ≠ none) :
      Effect i s (decodeStep extract common (takeFrame total s))
  | beat {b : Byte} {last : Bool} (hi : i = .rx b last) : Effect i s (rx b last s)
  /-- A read: the value returned is all that changes. -/
  | reading (r : Result) : Effect i s (answer r s)
  /-- A CSR write that does nothing (R204). -/
  | idle : Effect i s s
  | control {v : Word} (hi : i = .csrWrite 0x04 v) :
      Effect i s { s with crcEnforce := v.getLsbD 0, ackEn := v.getLsbD 1 }
  | clear {v : Word} (hi : i = .csrWrite 0x08 v) : Effect i s (clearEvents v s)
  | flush (hi : isFlush i) : Effect i s (flush s)
  | reset (hi : isReset i) : Effect i s (resetBlock s)
  | crcRestart (hi : i = .cmdCrcInit ∨ i = .csrWrite 0x28 3) : Effect i s (crcRestart s)
  | crcFeed {b : Byte} (hi : (∃ b, i = .crcData b) ∨ ∃ v, i = .csrWrite 0x2C v) : Effect i s (crcFeed b s)
  | popRec (hi : i = .cmdPopRec ∨ i = .csrWrite 0x28 4) : Effect i s (popRec s)
  | popAck (hi : i = .cmdPopAck ∨ i = .csrWrite 0x28 5) : Effect i s (popAck s)
  | ackRequest (proto : Byte) (serial : Half) : Effect i s (ackRequest proto serial s)

theorem command_effect (v : Word) (s : State) : Effect (.csrWrite 0x28 v) s (command v s) := by
  unfold command
  split
  · exact .flush (.inr rfl)
  · exact .reset (.inr (.inr rfl))
  · exact .crcRestart (.inr rfl)
  · exact .popRec (.inr rfl)
  · exact .popAck (.inr rfl)
  · exact .idle

theorem csrStore_effect (a : Byte) (v : Word) (s : State) : Effect (.csrWrite a v) s (csrStore a v s) := by
  unfold csrStore
  split
  · exact .control rfl
  · exact .clear rfl
  · exact command_effect v s
  · exact .crcFeed (.inr ⟨v, rfl⟩)
  · exact .ackRequest _ _
  · exact .idle

/-- Every frame row is the yield of an STD or of an EXT frame (R61, R62, R101). -/
theorem runFrame_of_row (i : Instr) (s : State) (h : rowOf i ≠ none) :
    (∃ proto extract payload serial checksum, runFrame i s = yieldStd proto extract payload serial checksum s)
    ∨ (∃ proto extract payload, runFrame i s = yieldExt proto extract payload s) := by
  cases i with
  | ack | rx | csrRead | csrWrite | cmdFlush | cmdSreset | cmdCrcInit | cmdPopRec | cmdPopAck | crcData | crcValue | ackReq
  | recPeek | ackPeek | hreset => exact absurd rfl h
  | login | gps | heartbeat | gpsLbs10 | gpsLbs11 | gpsLbs12 | gpsLbs22 | gpsLbsA0 | status | alarm | gpsLbsExt | gpsLbsData
  | wifi | iccid | locRep | statCmd | infoTx | extCmd98 | extCmd99 | unknown => exact .inl ⟨_, _, _, _, _, rfl⟩
  | _ =>
    unfold runFrame
    exact .inr ⟨_, _, _, rfl⟩

theorem stateAfter_of_row (i : Instr) (s : State) (h : rowOf i ≠ none) : stateAfter i s = runFrame i s := by
  cases i with
  | ack | rx | csrRead | csrWrite | cmdFlush | cmdSreset | cmdCrcInit | cmdPopRec | cmdPopAck | crcData | crcValue | ackReq
  | recPeek | ackPeek | hreset => exact absurd rfl h
  | _ => rfl

theorem stateAfter_effect (i : Instr) (s : State) : Effect i s (stateAfter i s) := by
  by_cases hrow : rowOf i = none
  · cases i with
    | rx b last => exact .beat rfl
    | ack | csrRead | crcValue | recPeek | ackPeek => exact .reading _
    | csrWrite a v => exact csrStore_effect a v s
    | cmdFlush => exact .flush (.inl rfl)
    | cmdSreset => exact .reset (.inr (.inl rfl))
    | hreset => exact .reset (.inl rfl)
    | cmdCrcInit => exact .crcRestart (.inl rfl)
    | crcData b => exact .crcFeed (.inl ⟨b, rfl⟩)
    | cmdPopRec => exact .popRec (.inl rfl)
    | cmdPopAck => exact .popAck (.inl rfl)
    | ackReq proto serial => exact .ackRequest proto serial
    | _ => cases hrow
  · rw [stateAfter_of_row i s hrow]
    obtain ⟨_, _, _, _, _, h⟩ | ⟨_, _, _, h⟩ := runFrame_of_row i s hrow <;> rw [h]
    · exact .yield hrow
    · exact .yield hrow

/-- `exec` has one answer, so this is all that an instruction can do. -/
theorem eq_stateAfter_of_exec {i : Instr} {s t : State} (h : exec i s = .next t) : t = stateAfter i s := by
  rw [exec_eq_next] at h
  injection h with h
  exact h.symm

theorem effect_of_exec {i : Instr} {s t : State} (h : exec i s = .next t) : Effect i s t :=
  eq_stateAfter_of_exec h ▸ stateAfter_effect i s

theorem stateAfter_of_isFlush {i : Instr} (h : isFlush i) (s : State) : stateAfter i s = flush s := by
  obtain rfl | rfl := h <;> rfl

theorem stateAfter_of_isReset {i : Instr} (h : isReset i) (s : State) : stateAfter i s = resetBlock s := by
  obtain rfl | rfl | rfl := h <;> rfl

/-! A beat. -/

/-- The cases of R90. -/
theorem rx_cases (b : Byte) (last : Bool) (s : State) :
    (s.halted = true ∧ rx b last s = s)
    ∨ (s.halted = false ∧ s.acc.length = cfg.accCap ∧ rx b last s = overflow s)
    ∨ (s.halted = false ∧ s.acc.length ≠ cfg.accCap ∧ last = false ∧ rx b last s = append b s)
    ∨ (s.halted = false ∧ s.acc.length ≠ cfg.accCap ∧ last = true ∧ rx b last s = drain (append b s)) := by
  unfold rx
  split
  · exact .inl ⟨‹_›, rfl⟩
  · have hh : s.halted = false := Bool.eq_false_iff.mpr ‹_›
    split
    · exact .inr (.inl ⟨hh, ‹_›, rfl⟩)
    · split
      · exact .inr (.inr (.inr ⟨hh, ‹_›, ‹_›, rfl⟩))
      · exact .inr (.inr (.inl ⟨hh, ‹_›, Bool.eq_false_iff.mpr ‹_›, rfl⟩))

/-- A beat that does not end a chunk counts nothing and yields nothing (R90). -/
theorem rx_not_last (b : Byte) (s : State) :
    (rx b false s).cntFrames = s.cntFrames ∧ (rx b false s).cntCrcErr = s.cntCrcErr
      ∧ (rx b false s).cntDropped = s.cntDropped ∧ (rx b false s).cntFramErr = s.cntFramErr
      ∧ (rx b false s).recq = s.recq := by
  obtain ⟨-, h⟩ | ⟨-, -, h⟩ | ⟨-, -, -, h⟩ | ⟨-, -, hl, -⟩ := rx_cases b false s
  · simp [h]
  · simp [h]
  · simp [h]
  · cases hl

/-! The detector as a relation. -/

/-- The four ways in which the detector changes the state (R93, R94, R97 to R101). -/
inductive DetectorMove : State → State → Prop
  | garbage (s : State) : DetectorMove s (dropGarbage s)
  | resync {s : State} {k : Nat} (hk : markerIndex s.acc = some k) : DetectorMove s (resync k s)
  | fail {s : State} {e : Event} (he : e ∈ candidateErrors) (hne : s.acc ≠ []) : DetectorMove s (failCandidate e s)
  | yield {s : State} {i : Instr} {rest : List Byte} (hd : decodeFrame s.acc = .ok (i, rest)) : DetectorMove s (runFrame i s)

/-- The state a pass ends with, whether or not the loop goes on. -/
def Pass.state : Pass → State
  | .stop s => s
  | .again s => s

theorem candidate_moves (s : State) : ReflTransGen DetectorMove s (candidate s).state := by
  obtain hc | ⟨e, he, hne, hc⟩ | ⟨i, rest, hd, hc⟩ := candidate_cases s
  · rw [hc]; exact .refl
  · rw [hc]; exact .single (.fail he hne)
  · rw [hc]; exact .single (.yield hd)

theorem iteration_moves (s : State) : ReflTransGen DetectorMove s (iteration s).state := by
  obtain ⟨-, hi⟩ | ⟨-, -, hi⟩ | ⟨k, -, hk, hi⟩ := iteration_cases s
  · rw [hi]; exact .refl
  · rw [hi]; exact .single (.garbage s)
  · rw [hi]; exact .head (.resync hk) (candidate_moves _)

theorem drainLoop_moves (n : Nat) (s : State) : ReflTransGen DetectorMove s (drainLoop n s) := by
  induction n generalizing s with
  | zero => exact .refl
  | succ n ih =>
    have hpass := iteration_moves s
    unfold drainLoop
    cases hi : iteration s with
    | stop t => rwa [hi] at hpass
    | again t =>
      rw [hi] at hpass
      exact hpass.trans (ih t)

/-- A drain is a sequence of such moves (R91). -/
theorem drain_moves (s : State) : ReflTransGen DetectorMove s (drain s) := drainLoop_moves _ s

theorem markerIndex_lt (bytes : List Byte) (k : Nat) (h : markerIndex bytes = some k) : k < bytes.length := by
  induction bytes using markerIndex.induct generalizing k with
  | case1 b0 b1 rest hpair =>
    rw [markerIndex, if_pos hpair] at h
    cases h
    simp
  | case2 b0 b1 rest hpair ih =>
    rw [markerIndex, if_neg hpair, Option.map_eq_some_iff] at h
    obtain ⟨j, hj, rfl⟩ := h
    exact Nat.succ_lt_succ (ih j hj)
  | case3 bytes hshort =>
    unfold markerIndex at h
    split at h
    · exact absurd rfl (hshort _ _ _)
    · cases h

/-! What a yield, a beat and the detector have in common: flags are raised and entries are queued, the control registers stay. -/

/-- From `s` to `t` flags are only raised, queues only grow at the tail, and CTRL and CRC_REG stay. -/
structure Advances (s t : State) : Prop where
  crcReg : t.crcReg = s.crcReg
  crcEnforce : t.crcEnforce = s.crcEnforce
  ackEn : t.ackEn = s.ackEn
  status : ∃ raised, t.status = s.status ||| raised
  recq : s.recq <+: t.recq
  ackq : s.ackq <+: t.ackq

namespace Advances

theorem refl (s : State) : Advances s s := ⟨rfl, rfl, rfl, ⟨0, by simp⟩, List.prefix_rfl, List.prefix_rfl⟩

theorem trans {s t u : State} (h : Advances s t) (h' : Advances t u) : Advances s u where
  crcReg := h'.crcReg.trans h.crcReg
  crcEnforce := h'.crcEnforce.trans h.crcEnforce
  ackEn := h'.ackEn.trans h.ackEn
  status := by
    obtain ⟨a, ha⟩ := h.status
    obtain ⟨b, hb⟩ := h'.status
    exact ⟨a ||| b, by rw [hb, ha, BitVec.or_assoc]⟩
  recq := h.recq.trans h'.recq
  ackq := h.ackq.trans h'.ackq

/-- A flag that stands stays. -/
theorem flag {s t : State} (h : Advances s t) {k : Nat} (hk : s.status.getLsbD k = true) : t.status.getLsbD k = true := by
  obtain ⟨raised, hr⟩ := h.status
  rw [hr, BitVec.getLsbD_or, hk, Bool.true_or]

end Advances

theorem raiseEvent_advances (e : Event) (o : Word) (s : State) : Advances s (raiseEvent e o s) :=
  ⟨rfl, rfl, rfl, ⟨_, rfl⟩, List.prefix_rfl, List.prefix_rfl⟩

theorem discard_advances (n : Nat) (s : State) : Advances s (discard n s) :=
  ⟨rfl, rfl, rfl, ⟨0, by simp⟩, List.prefix_rfl, List.prefix_rfl⟩

theorem overflow_advances (s : State) : Advances s (overflow s) :=
  ⟨rfl, rfl, rfl, ⟨_, rfl⟩, List.prefix_rfl, List.prefix_rfl⟩

theorem append_advances (b : Byte) (s : State) : Advances s (append b s) :=
  ⟨rfl, rfl, rfl, ⟨0, by simp⟩, List.prefix_rfl, List.prefix_rfl⟩

theorem takeFrame_advances (n : Nat) (s : State) : Advances s (takeFrame n s) :=
  ⟨rfl, rfl, rfl, ⟨0, by simp⟩, List.prefix_rfl, List.prefix_rfl⟩

theorem decodeStep_advances (extract : Record → Record) (common : Record) (s : State) :
    Advances s (decodeStep extract common s) := by
  obtain ⟨-, -, -, he, ha, -, -, -, hcrc, -, -⟩ := decodeStep_frame extract common s
  have hstatus : ∃ raised, (decodeStep extract common s).status = s.status ||| raised := by
    rw [decodeStep_status]
    split
    · exact ⟨_, rfl⟩
    · exact ⟨_, by rw [BitVec.or_assoc, BitVec.or_assoc]⟩
  obtain ⟨-, -, hr, hq⟩ | ⟨-, hr, hq⟩ := decodeStep_queues extract common s
  · exact ⟨hcrc, he, ha, hstatus, by rw [hr], by rw [hq]⟩
  · refine ⟨hcrc, he, ha, hstatus, ⟨_, hr.symm⟩, ?_⟩
    rw [hq]
    split
    · exact List.prefix_append _ _
    · exact List.prefix_rfl

theorem yield_advances (extract : Record → Record) (common : Record) (total : Nat) (s : State) :
    Advances s (decodeStep extract common (takeFrame total s)) :=
  (takeFrame_advances total s).trans (decodeStep_advances extract common _)

theorem DetectorMove.advances {s t : State} (h : DetectorMove s t) : Advances s t := by
  cases h with
  | garbage => exact (raiseEvent_advances _ _ s).trans (discard_advances _ _)
  | resync _ =>
    unfold Machine.resync
    split
    · exact .refl s
    · exact (raiseEvent_advances _ _ s).trans (discard_advances _ _)
  | fail _ _ => exact (raiseEvent_advances _ _ s).trans (discard_advances _ _)
  | yield hd =>
    obtain ⟨_, _, _, -, -, -, -, -, -, h⟩ := runFrame_decoded _ _ _ hd
    rw [h]
    exact yield_advances _ _ _ s

theorem moves_advance {s t : State} (h : ReflTransGen DetectorMove s t) : Advances s t := by
  induction h with
  | refl => exact .refl s
  | tail _ hmove ih => exact ih.trans hmove.advances

theorem rx_advances (b : Byte) (last : Bool) (s : State) : Advances s (rx b last s) := by
  obtain ⟨-, h⟩ | ⟨-, -, h⟩ | ⟨-, -, -, h⟩ | ⟨-, -, -, h⟩ := rx_cases b last s <;> rw [h]
  · exact .refl s
  · exact overflow_advances s
  · exact append_advances b s
  · exact (append_advances b s).trans (moves_advance (drain_moves _))

end Sys2Proof.Machine
end

section
/-! HALTED, the control registers and the queues (10_state R14 to R25). -/

namespace Sys2Proof.Machine

open Sys2Proof.Claims Relation

/-! HALTED (R14). -/

theorem decodeStep_takeFrame_halted (extract : Record → Record) (common : Record) (total : Nat) (s : State) :
    (decodeStep extract common (takeFrame total s)).halted = s.halted := by
  obtain ⟨-, -, h, -⟩ := decodeStep_frame extract common (takeFrame total s)
  exact h

theorem DetectorMove.halted_eq {s t : State} (h : DetectorMove s t) : t.halted = s.halted := by
  cases h with
  | garbage => rfl
  | resync _ => exact resync_halted s _
  | fail _ _ => rfl
  | yield hd =>
    obtain ⟨_, _, _, -, -, -, -, -, -, h⟩ := runFrame_decoded _ _ _ hd
    rw [h]
    exact decodeStep_takeFrame_halted _ _ _ s

theorem moves_halted {s t : State} (h : ReflTransGen DetectorMove s t) : t.halted = s.halted := by
  induction h with
  | refl => rfl
  | tail _ hmove ih => exact hmove.halted_eq.trans ih

/-- A beat changes HALTED only by overflowing (R90). -/
theorem rx_halted (b : Byte) (last : Bool) (s : State) :
    (rx b last s).halted = s.halted ∨ (s.halted = false ∧ s.acc.length = cfg.accCap ∧ (rx b last s).halted = true) := by
  obtain ⟨-, h⟩ | ⟨hh, hfull, h⟩ | ⟨-, -, -, h⟩ | ⟨-, -, -, h⟩ := rx_cases b last s <;> rw [h]
  · exact .inl rfl
  · exact .inr ⟨hh, hfull, rfl⟩
  · exact .inl rfl
  · exact .inl ((moves_halted (drain_moves (append b s))).trans rfl)

/-- What an instruction can do to HALTED. -/
theorem Effect.halted_cases {i : Instr} {s t : State} (h : Effect i s t) :
    t.halted = s.halted ∨ (t.halted = false ∧ (isFlush i ∨ isReset i))
    ∨ (t.halted = true ∧ (∃ b last, i = .rx b last) ∧ s.acc.length = cfg.accCap) := by
  cases h with
  | yield _ => exact .inl (decodeStep_takeFrame_halted _ _ _ s)
  | beat hi =>
    obtain h | ⟨-, hfull, h⟩ := rx_halted _ _ s
    · exact .inl h
    · exact .inr (.inr ⟨h, ⟨_, _, hi⟩, hfull⟩)
  | flush hi => exact .inr (.inl ⟨rfl, .inl hi⟩)
  | reset hi => exact .inr (.inl ⟨rfl, .inr hi⟩)
  | _ => exact .inl rfl

/-- Settles O27: the two changes of HALTED are those of `Effect.halted_cases`. -/
theorem haltedIsSetByOverflowOnly : Obligations.HaltedIsSetByOverflowOnly := by
  refine ⟨rfl, fun i s t h => ⟨fun hs ht => ?_, fun hs ht => ?_, ?_, ?_⟩⟩
  · obtain heq | ⟨-, hi⟩ | ⟨htrue, -⟩ := (effect_of_exec h).halted_cases
    · simp [heq, hs] at ht
    · exact hi
    · simp [htrue] at ht
  · obtain heq | ⟨hfalse, -⟩ | ⟨-, hi⟩ := (effect_of_exec h).halted_cases
    · simp [heq, hs] at ht
    · simp [hfalse] at ht
    · exact hi
  · rintro hs ⟨b, last, rfl⟩
    rw [eq_stateAfter_of_exec h]
    exact if_pos hs
  · rw [eq_stateAfter_of_exec h]
    rintro (hi | hi)
    · rw [stateAfter_of_isFlush hi, flush_halted]
    · rw [stateAfter_of_isReset hi, resetBlock_halted]

/-! The control registers (R15, R18, R19, R22, R23), one at a time. -/

namespace Effect

variable {i : Instr} {s t : State}

theorem crcReg_cases (h : Effect i s t) (hr : ¬ isReset i) :
    t.crcReg = s.crcReg
    ∨ (i = .cmdCrcInit ∨ i = .csrWrite 0x28 3 ∨ (∃ b, i = .crcData b) ∨ ∃ v, i = .csrWrite 0x2C v) := by
  cases h with
  | yield _ => exact .inl (yield_advances _ _ _ s).crcReg
  | beat _ => exact .inl (rx_advances _ _ s).crcReg
  | reset hi => exact absurd hi hr
  | crcRestart hi =>
    obtain hi | hi := hi
    · exact .inr (.inl hi)
    · exact .inr (.inr (.inl hi))
  | crcFeed hi => exact .inr (.inr (.inr hi))
  | _ => exact .inl rfl

theorem ctrl_cases (h : Effect i s t) (hr : ¬ isReset i) :
    (t.crcEnforce = s.crcEnforce ∧ t.ackEn = s.ackEn) ∨ ∃ v, i = .csrWrite 0x04 v := by
  cases h with
  | yield _ => exact .inl ⟨(yield_advances _ _ _ s).crcEnforce, (yield_advances _ _ _ s).ackEn⟩
  | beat _ => exact .inl ⟨(rx_advances _ _ s).crcEnforce, (rx_advances _ _ s).ackEn⟩
  | reset hi => exact absurd hi hr
  | control hi => exact .inr ⟨_, hi⟩
  | _ => exact .inl ⟨rfl, rfl⟩

theorem frameCounters_cases (h : Effect i s t) (hr : ¬ isReset i) :
    (t.cntFrames = s.cntFrames ∧ t.cntCrcErr = s.cntCrcErr) ∨ (rowOf i ≠ none ∨ ∃ b, i = .rx b true) := by
  cases h with
  | yield hrow => exact .inr (.inl hrow)
  | @beat b last hi =>
    cases last with
    | true => exact .inr (.inr ⟨b, hi⟩)
    | false =>
      obtain ⟨hframes, hcrc, -⟩ := rx_not_last b s
      exact .inl ⟨hframes, hcrc⟩
  | reset hi => exact absurd hi hr
  | _ => exact .inl ⟨rfl, rfl⟩

theorem dropCounters_cases (h : Effect i s t) (hr : ¬ isReset i) :
    (t.cntDropped = s.cntDropped ∧ t.cntFramErr = s.cntFramErr) ∨ ∃ b, i = .rx b true := by
  cases h with
  | @yield extract common total _ =>
    obtain ⟨-, -, -, -, -, -, hdropped, hframErr, -⟩ := decodeStep_frame extract common (takeFrame total s)
    exact .inl ⟨hdropped, hframErr⟩
  | @beat b last hi =>
    cases last with
    | true => exact .inr ⟨b, hi⟩
    | false =>
      obtain ⟨-, -, hdropped, hframErr, -⟩ := rx_not_last b s
      exact .inl ⟨hdropped, hframErr⟩
  | reset hi => exact absurd hi hr
  | _ => exact .inl ⟨rfl, rfl⟩

theorem lastEvent_cases (h : Effect i s t) (hr : ¬ isReset i) :
    (t.lastErr = s.lastErr ∧ t.lastOff = s.lastOff) ∨ (rowOf i ≠ none ∨ ∃ b last, i = .rx b last) := by
  cases h with
  | yield hrow => exact .inr (.inl hrow)
  | beat hi => exact .inr (.inr ⟨_, _, hi⟩)
  | reset hi => exact absurd hi hr
  | _ => exact .inl ⟨rfl, rfl⟩

theorem flag_cases (h : Effect i s t) (hr : ¬ isReset i) {k : Nat} (hk : k < 9) (hs : s.status.getLsbD k = true) :
    t.status.getLsbD k = true ∨ ∃ v, i = .csrWrite 0x08 v ∧ v.getLsbD k = true := by
  cases h with
  | yield _ => exact .inl ((yield_advances _ _ _ s).flag hs)
  | beat _ => exact .inl ((rx_advances _ _ s).flag hs)
  | reset hi => exact absurd hi hr
  | @clear v hi =>
    cases hv : v.getLsbD k with
    | true => exact .inr ⟨v, hi, hv⟩
    | false => exact .inl (by simp [clearFlags, hs, hv, hk])
  | _ => exact .inl hs

end Effect

/-- Settles O29, one register at a time. -/
theorem onlyTheseOperationsWriteTheControlState : Obligations.OnlyTheseOperationsWriteTheControlState := by
  intro i s t h hr
  have he := effect_of_exec h
  exact ⟨fun hne => (he.crcReg_cases hr).resolve_left hne,
    fun hne => (he.ctrl_cases hr).resolve_left (not_and_or.mpr hne),
    fun hne => (he.frameCounters_cases hr).resolve_left (not_and_or.mpr hne),
    fun hne => (he.dropCounters_cases hr).resolve_left (not_and_or.mpr hne),
    fun hne => (he.lastEvent_cases hr).resolve_left (not_and_or.mpr hne),
    fun k hk hs ht => (he.flag_cases hr hk hs).resolve_left (Bool.eq_false_iff.mp ht)⟩

/-! The queues (R16, R17). -/

theorem Effect.recq_cases {i : Instr} {s t : State} (h : Effect i s t) :
    (∃ new, t.recq = s.recq ++ new ∧ (new ≠ [] → rowOf i ≠ none ∨ ∃ b, i = .rx b true))
    ∨ (t.recq = s.recq.drop 1 ∧ (i = .cmdPopRec ∨ i = .csrWrite 0x28 4)) ∨ (t.recq = [] ∧ isReset i) := by
  cases h with
  | yield hrow =>
    obtain ⟨new, hnew⟩ := (yield_advances _ _ _ s).recq
    exact .inl ⟨new, hnew.symm, fun _ => .inl hrow⟩
  | @beat b last hi =>
    cases last with
    | true =>
      obtain ⟨new, hnew⟩ := (rx_advances b true s).recq
      exact .inl ⟨new, hnew.symm, fun _ => .inr ⟨b, hi⟩⟩
    | false =>
      obtain ⟨-, -, -, -, hrecq⟩ := rx_not_last b s
      exact .inl ⟨[], by simp [hrecq], fun hne => absurd rfl hne⟩
  | popRec hi => exact .inr (.inl ⟨by simp, hi⟩)
  | reset hi => exact .inr (.inr ⟨rfl, hi⟩)
  | _ => exact .inl ⟨[], (List.append_nil _).symm, fun hne => absurd rfl hne⟩

theorem Effect.ackq_cases {i : Instr} {s t : State} (h : Effect i s t) :
    (∃ new, t.ackq = s.ackq ++ new) ∨ (t.ackq = s.ackq.drop 1 ∧ (i = .cmdPopAck ∨ i = .csrWrite 0x28 5))
    ∨ (t.ackq = [] ∧ (isReset i ∨ isFlush i)) := by
  cases h with
  | yield _ =>
    obtain ⟨new, hnew⟩ := (yield_advances _ _ _ s).ackq
    exact .inl ⟨new, hnew.symm⟩
  | beat _ =>
    obtain ⟨new, hnew⟩ := (rx_advances _ _ s).ackq
    exact .inl ⟨new, hnew.symm⟩
  | ackRequest _ _ => exact .inl ⟨_, rfl⟩
  | popAck hi => exact .inr (.inl ⟨by simp, hi⟩)
  | flush hi => exact .inr (.inr ⟨rfl, .inr hi⟩)
  | reset hi => exact .inr (.inr ⟨rfl, .inl hi⟩)
  | _ => exact .inl ⟨[], (List.append_nil _).symm⟩

/-- Settles O30, one queue at a time. -/
theorem queuesAreFirstInFirstOut : Obligations.QueuesAreFirstInFirstOut :=
  fun _ _ _ h => ⟨(effect_of_exec h).recq_cases, (effect_of_exec h).ackq_cases⟩

/-- Settles O25, by evaluation of the reset state and of its CTRL word. -/
theorem resetValues : Obligations.ResetValues :=
  ⟨rfl, rfl, rfl, rfl, rfl, rfl, rfl, rfl, rfl, rfl, rfl, rfl, rfl, rfl, rfl, rfl⟩

end Sys2Proof.Machine
end

section
/-! What a yielded record is, and that every step keeps a good state good (10_state R11, R14, R16, R17, R19, R25 to R31). -/

namespace Sys2Proof.Machine

open Sys2Proof.Claims Relation

/-! The groups of a record (R25, R27 to R31). -/

/-- The groups that the extractors write are as R25 to R31 allow them: `recordOk` without the common fields. -/
structure GroupsOk (r : Record) : Prop where
  login : loginRegsOk r.login = true
  dt : dateTimeOk r.dt = true
  gps : gpsOk r.gps = true
  lbs : (r.lbs.vLbs || r.lbs == {}) = true
  st : statusRegsOk r.st = true
  al : alarmRegsOk r.al = true
  wifi : wifiRegsOk r.wifi = true
  iccid : iccidRegsOk r.iccid = true

theorem recordOk_of_parts {r : Record} (hc : commonOk r = true) (hg : GroupsOk r) : recordOk r = true := by
  simp only [recordOk, hc, hg.login, hg.dt, hg.gps, hg.lbs, hg.st, hg.al, hg.wifi, hg.iccid, Bool.and_self]

/-- A field read behind its valid bit is 0 when the bit is 0 (R25). -/
theorem valid_or_zero {n : Nat} (valid : Bool) (x : BitVec n) : (valid || (if valid then x else 0) == 0) = true := by
  cases valid <;> simp

theorem dateTimeGroup_ok (payload : List Byte) (o : Nat) : dateTimeOk (dateTimeGroup payload o) = true := by
  simp [dateTimeOk, dateTimeGroup]

theorem gpsGroup_ok (payload : List Byte) (o : Nat) : gpsOk (gpsGroup payload o) = true := by
  simp [gpsOk, gpsGroup]

theorem alarmFlags_ok (payload : List Byte) : alarmRegsOk (alarmFlags payload) = true := by
  simp only [alarmRegsOk, alarmFlags, beq_self_eq_true, valid_or_zero, Bool.and_self]

theorem bcdDigits_length (bytes : List Byte) : (bcdDigits bytes).length = 2 * bytes.length := by
  simp [bcdDigits, Nat.mul_comm]

theorem extractLogin_ok (payload : List Byte) {r : Record} (h : GroupsOk r) : GroupsOk (extractLogin payload r) :=
  { h with login := by simp only [extractLogin, loginRegsOk, valid_or_zero, Bool.and_self] }

theorem gpsLbsPath_ok (offs : GpsOffsets) (payload : List Byte) (b : Nat) {r : Record} (h : GroupsOk r) :
    GroupsOk (gpsLbsPath offs payload b r) :=
  { h with
    dt := by
      simp only [gpsLbsPath]
      split
      · exact dateTimeGroup_ok _ _
      · exact h.dt
    gps := by
      simp only [gpsLbsPath]
      split
      · exact gpsGroup_ok _ _
      · exact h.gps
    lbs := by
      simp only [gpsLbsPath]
      split
      · rfl
      · exact h.lbs }

theorem extractAlarm_ok (payload : List Byte) {r : Record} (h : GroupsOk r) : GroupsOk (extractAlarm payload r) :=
  gpsLbsPath_ok _ payload 1 { h with al := alarmFlags_ok payload }

theorem extractStatus_ok (payload : List Byte) {r : Record} (h : GroupsOk r) : GroupsOk (extractStatus payload r) :=
  { h with st := by simp only [extractStatus, statusRegsOk, beq_self_eq_true, valid_or_zero, Bool.and_self] }

/-- WIFI_N is at most the declared count (R154), which is a byte. -/
theorem wifiCount_le (payload : List Byte) : wifiCount payload ≤ (byteAt payload 6).toNat := Nat.min_le_left _ _

theorem extractWifi_ok (payload : List Byte) {r : Record} (h : GroupsOk r) : GroupsOk (extractWifi payload r) :=
  { h with
    dt := by
      simp only [extractWifi]
      split
      · exact dateTimeGroup_ok _ _
      · exact h.dt
    wifi := by
      simp only [extractWifi]
      split
      · have hle := wifiCount_le payload
        have hn : (BitVec.ofNat 8 (wifiCount payload)).toNat = wifiCount payload :=
          Nat.mod_eq_of_lt (Nat.lt_of_le_of_lt hle (byteAt payload 6).isLt)
        simp [wifiRegsOk, hn, hle]
      · exact h.wifi }

theorem extractIccid_ok (payload : List Byte) {r : Record} (h : GroupsOk r) : GroupsOk (extractIccid payload r) :=
  { h with
    iccid := by
      simp only [extractIccid]
      split
      · have hp : 10 ≤ payload.length := by simpa [present_iff] using ‹present payload 0 10 = true›
        simp [iccidRegsOk, bcdDigits_length, hp]
      · exact h.iccid }

theorem extractorOf_ok (proto : Byte) (payload : List Byte) {r : Record} (h : GroupsOk r) :
    GroupsOk (extractorOf proto payload r) := by
  unfold extractorOf
  split
  · exact extractLogin_ok payload h
  · split
    · exact gpsLbsPath_ok _ payload 0 h
    · split
      · exact extractStatus_ok payload h
      · split
        · exact extractAlarm_ok payload h
        · split
          · exact extractWifi_ok payload h
          · split
            · exact extractIccid_ok payload h
            · exact h

/-- The groups of a record that no extractor has written yet are all zero (R25), which is allowed. -/
theorem groupsOk_of_zero {r : Record} (hlogin : r.login = {}) (hdt : r.dt = {}) (hgps : r.gps = {}) (hlbs : r.lbs = {})
    (hst : r.st = {}) (hal : r.al = {}) (hwifi : r.wifi = {}) (hiccid : r.iccid = {}) : GroupsOk r := by
  constructor
  · rw [hlogin]; rfl
  · rw [hdt]; rfl
  · rw [hgps]; rfl
  · rw [hlbs]; rfl
  · rw [hst]; rfl
  · rw [hal]; rfl
  · rw [hwifi]; rfl
  · rw [hiccid]; rfl

/-! The common fields (R26). -/

theorem stopMarkerAt_of_drop {bytes : List Byte} (hlen : 7 ≤ bytes.length) (h : bytes.drop (bytes.length - 2) = [0x0D, 0x0A]) :
    stopMarkerAt bytes bytes.length = true := by
  have hat (k : Nat) : byteAt bytes (bytes.length - 2 + k) = byteAt [0x0D, 0x0A] k := by
    rw [← h]
    simp only [byteAt, List.getD_eq_getElem?_getD, List.getElem?_drop]
  have h0 := hat 0
  have h1 := hat 1
  rw [show bytes.length - 2 + 1 = bytes.length - 1 by omega] at h1
  simp only [stopMarkerAt, Nat.add_zero] at *
  rw [h0, h1]
  rfl

theorem stdRecord_commonOk (proto : Byte) (payload : List Byte) (serial checksum : Half) (seq offset : Word)
    (h : stdPayloadOk payload = true) : commonOk (stdRecord proto payload serial checksum seq offset) = true := by
  obtain ⟨hmin, hmax, -, hstop⟩ := Laws.EncodeShape.std proto payload serial checksum h
  have hmarker := stopMarkerAt_of_drop hmin hstop
  have hlen := stdFrame_length proto payload serial checksum
  simp only [stdPayloadOk, Bool.and_eq_true, decide_eq_true_eq] at h
  obtain ⟨hbyte, -⟩ := h
  have hraw : (BitVec.ofNat 17 (payload.length + 10)).toNat = payload.length + 10 := Nat.mod_eq_of_lt (by omega)
  have hpay : (BitVec.ofNat 16 payload.length).toNat = payload.length := Nat.mod_eq_of_lt (by omega)
  have h0 : byteAt (stdFrame proto payload serial checksum) 0 = 0x78 := rfl
  have h1 : byteAt (stdFrame proto payload serial checksum) 1 = 0x78 := rfl
  rw [hlen] at hmin hmax hmarker
  simp only [commonOk, stdRecord, commonFields, hlen, hraw, hpay, hmin, hmax, hmarker, h0, h1, beq_self_eq_true, decide_true,
    Bool.and_self, Bool.false_eq_true, if_false]

theorem extRecord_commonOk (proto : Byte) (payload : List Byte) (seq offset : Word) (h : extPayloadOk payload = true) :
    commonOk (extRecord proto payload seq offset) = true := by
  obtain ⟨hmin, hmax, -, hstop⟩ := Laws.EncodeShape.ext proto payload h
  have hmarker := stopMarkerAt_of_drop hmin hstop
  have hlen := extFrame_length proto payload
  have hcap := cfg.maxFrame
  rw [hlen] at hmin hmax hmarker
  have hraw : (BitVec.ofNat 17 (payload.length + 7)).toNat = payload.length + 7 := Nat.mod_eq_of_lt (by omega)
  have hpay : (BitVec.ofNat 16 payload.length).toNat = payload.length := Nat.mod_eq_of_lt (by omega)
  have h0 : byteAt (extFrame proto payload) 0 = 0x79 := rfl
  have h1 : byteAt (extFrame proto payload) 1 = 0x79 := rfl
  simp only [commonOk, extRecord, commonFields, hlen, hraw, hpay, hmin, hmax, hmarker, h0, h1, beq_self_eq_true, decide_true,
    Bool.and_self, if_true, Bool.not_false]

theorem extractorOf_commonOk (proto : Byte) (payload : List Byte) (r : Record) :
    commonOk (extractorOf proto payload r) = commonOk r := by
  obtain ⟨x, hx⟩ := extractorOf_common proto payload r
  rw [hx]
  rfl

theorem extractorOf_raw (proto : Byte) (payload : List Byte) (r : Record) : (extractorOf proto payload r).raw = r.raw := by
  obtain ⟨x, hx⟩ := extractorOf_common proto payload r
  rw [hx]

/-- The yield of the frame at the head of ACC (R101, R110): its record is good, and holds the very bytes that leave ACC. -/
theorem runFrame_record {s : State} {i : Instr} {rest : List Byte} (h : decodeFrame s.acc = .ok (i, rest)) :
    ∃ extract common total, runFrame i s = decodeStep extract common (takeFrame total s) ∧ total ≤ s.acc.length
      ∧ (extract common).raw.length = total ∧ recordOk (extract common) = true := by
  obtain ⟨p, payload, ser, chk, rfl, hp, hb⟩ | ⟨p, payload, rfl, hp, hb⟩ := decodeFrame_ok _ _ _ h
  · refine ⟨_, _, _, runFrame_selectStd p payload ser chk s, ?_, ?_, recordOk_of_parts ?_ (extractorOf_ok p payload ?_)⟩
    · rw [hb, List.length_append, stdFrame_length]
      omega
    · rw [extractorOf_raw]
      exact stdFrame_length p payload ser chk
    · rw [extractorOf_commonOk]
      exact stdRecord_commonOk p payload ser chk _ _ hp
    · exact groupsOk_of_zero rfl rfl rfl rfl rfl rfl rfl rfl
  · refine ⟨_, _, _, runFrame_selectExt p payload s, ?_, ?_, recordOk_of_parts ?_ (extractorOf_ok p payload ?_)⟩
    · rw [hb, List.length_append, extFrame_length]
      omega
    · rw [extractorOf_raw]
      exact extFrame_length p payload
    · rw [extractorOf_commonOk]
      exact extRecord_commonOk p payload _ _ hp
    · exact groupsOk_of_zero rfl rfl rfl rfl rfl rfl rfl rfl

/-! The invariant (Safety.lean). -/

theorem stateOk_iff (s : State) :
    stateOk s = true ↔ memWf s.acc = true ∧ (s.halted = true → s.acc.length = cfg.accCap) ∧ s.lastErr.toNat ≤ 6
      ∧ (∀ r ∈ s.recq, recordOk r = true) ∧ (∀ f ∈ s.ackq, ackFrameOk f = true) := by
  simp only [stateOk, Bool.and_eq_true, decide_eq_true_eq, List.all_eq_true, Bool.or_eq_true, Bool.not_eq_true', beq_iff_eq,
    and_assoc]
  cases s.halted <;> simp

theorem buildAck_ok (serial : Half) (proto : Byte) : ackFrameOk (buildAck serial proto) = true := by
  have hserial : be16 (byteAt (buildAck serial proto) 4) (byteAt (buildAck serial proto) 5) = serial := be16_hi_lo serial
  have hproto : byteAt (buildAck serial proto) 3 = proto := rfl
  rw [ackFrameOk, hserial, hproto, beq_self_eq_true]

theorem raiseEvent_lastErr_le (e : Event) (o : Word) (s : State) (h : s.lastErr.toNat ≤ 6) :
    (raiseEvent e o s).lastErr.toNat ≤ 6 := by
  rw [raiseEvent_lastErr]
  cases hc : eventCode e with
  | none => exact h
  | some c => exact eventCode_le_six e c hc

/-- A drop with its event keeps a good state that is not halted good; in a halted one ACC must stay full. -/
theorem stateOk_discard_raiseEvent (n : Nat) (e : Event) (o : Word) (s : State) (hh : s.halted = false) (h : stateOk s = true) :
    stateOk (discard n (raiseEvent e o s)) = true := by
  rw [stateOk_iff] at *
  obtain ⟨hacc, -, herr, hrec, hack⟩ := h
  exact ⟨memWf_drop _ n hacc, fun ht => absurd (hh.symm.trans ht) Bool.false_ne_true, raiseEvent_lastErr_le e o s herr, hrec, hack⟩

theorem stateOk_yield {extract : Record → Record} {common : Record} (total : Nat) {s : State}
    (hr : recordOk (extract common) = true) (hh : s.halted = false) (h : stateOk s = true) :
    stateOk (decodeStep extract common (takeFrame total s)) = true := by
  rw [stateOk_iff] at *
  obtain ⟨hacc, -, herr, hrec, hack⟩ := h
  obtain ⟨hacc', -, hh', -⟩ := decodeStep_frame extract common (takeFrame total s)
  obtain ⟨herr', -, -⟩ := decodeStep_events extract common (takeFrame total s)
  have herr6 : (decodeStep extract common (takeFrame total s)).lastErr.toNat ≤ 6 := by
    rw [herr']
    split
    · decide
    · exact herr
  have hnothalted : (decodeStep extract common (takeFrame total s)).halted = true →
      (decodeStep extract common (takeFrame total s)).acc.length = cfg.accCap := by
    rw [hh', takeFrame_halted, hh]
    exact fun hf => absurd hf Bool.false_ne_true
  refine ⟨hacc' ▸ memWf_drop _ total hacc, hnothalted, herr6, ?_⟩
  obtain ⟨-, -, hrecq, hackq⟩ | ⟨-, hrecq, hackq⟩ := decodeStep_queues extract common (takeFrame total s)
  · rw [hrecq, hackq]
    exact ⟨hrec, hack⟩
  · rw [hrecq, hackq]
    refine ⟨List.forall_mem_append.mpr ⟨hrec, List.forall_mem_singleton.mpr hr⟩, ?_⟩
    split
    · exact List.forall_mem_append.mpr ⟨hack, List.forall_mem_singleton.mpr (buildAck_ok _ _)⟩
    · exact hack

theorem DetectorMove.keeps_stateOk {s t : State} (hm : DetectorMove s t) (hh : s.halted = false) (h : stateOk s = true) :
    stateOk t = true := by
  cases hm with
  | garbage => exact stateOk_discard_raiseEvent _ _ _ s hh h
  | resync _ =>
    unfold Machine.resync
    split
    · exact h
    · exact stateOk_discard_raiseEvent _ _ _ s hh h
  | fail _ _ => exact stateOk_discard_raiseEvent _ _ _ s hh h
  | yield hd =>
    obtain ⟨_, _, total, heq, -, -, hr⟩ := runFrame_record hd
    rw [heq]
    exact stateOk_yield total hr hh h

theorem moves_keep_stateOk {s t : State} (hm : ReflTransGen DetectorMove s t) (hh : s.halted = false) (h : stateOk s = true) :
    stateOk t = true := by
  induction hm with
  | refl => exact h
  | tail hbefore hmove ih => exact hmove.keeps_stateOk ((moves_halted hbefore).trans hh) ih

theorem stateOk_append (b : Byte) (s : State) (hh : s.halted = false) (hroom : s.acc.length ≠ cfg.accCap) (h : stateOk s = true) :
    stateOk (append b s) = true := by
  rw [stateOk_iff] at *
  obtain ⟨hacc, -, herr, hrec, hack⟩ := h
  exact ⟨memWf_append _ b hacc hroom, fun ht => absurd (hh.symm.trans ht) Bool.false_ne_true, herr, hrec, hack⟩

theorem stateOk_rx (b : Byte) (last : Bool) (s : State) (h : stateOk s = true) : stateOk (rx b last s) = true := by
  obtain ⟨-, heq⟩ | ⟨-, hfull, heq⟩ | ⟨hh, hroom, -, heq⟩ | ⟨hh, hroom, -, heq⟩ := rx_cases b last s <;> rw [heq]
  · exact h
  · rw [stateOk_iff] at *
    obtain ⟨hacc, -, -, hrec, hack⟩ := h
    exact ⟨hacc, fun _ => hfull, by simp, hrec, hack⟩
  · exact stateOk_append b s hh hroom h
  · exact moves_keep_stateOk (drain_moves _) hh (stateOk_append b s hh hroom h)

/-- Settles O24: everything is empty and 0. -/
theorem resetStateIsOk : Obligations.ResetStateIsOk :=
  (stateOk_iff _).mpr ⟨memWf_reset, fun h => absurd h Bool.false_ne_true, by decide, List.forall_mem_nil _, List.forall_mem_nil _⟩

/-- Every instruction but a frame row keeps a good state good. A frame row as such is excepted because it takes bytes from ACC in a
halted state too; a step reaches it through a beat only. -/
theorem Effect.keeps_stateOk {i : Instr} {s t : State} (he : Effect i s t) (hrow : rowOf i = none) (h : stateOk s = true) :
    stateOk t = true := by
  have hparts := (stateOk_iff s).mp h
  obtain ⟨hacc, hhalted, herr, hrec, hack⟩ := hparts
  cases he with
  | yield hne => exact absurd hrow hne
  | beat _ => exact stateOk_rx _ _ s h
  | flush _ => exact (stateOk_iff _).mpr ⟨memWf_nil, fun ht => absurd ht Bool.false_ne_true, herr, hrec, List.forall_mem_nil _⟩
  | reset _ => exact resetStateIsOk
  | popRec _ => exact (stateOk_iff _).mpr ⟨hacc, hhalted, herr, fun r hr => hrec r (List.mem_of_mem_tail hr), hack⟩
  | popAck _ => exact (stateOk_iff _).mpr ⟨hacc, hhalted, herr, hrec, fun f hf => hack f (List.mem_of_mem_tail hf)⟩
  | ackRequest proto serial =>
    exact (stateOk_iff _).mpr ⟨hacc, hhalted, herr, hrec,
      List.forall_mem_append.mpr ⟨hack, List.forall_mem_singleton.mpr (buildAck_ok serial proto)⟩⟩
  | reading _ | idle | control _ | clear _ | crcRestart _ | crcFeed _ => exact h

/-! A step. -/

theorem rowOf_selectCsrWrite (a : Byte) (v : Word) : rowOf (selectCsrWrite a v) = none := by
  unfold selectCsrWrite
  split
  · split <;> rfl
  · split
    · rfl
    · split <;> rfl

theorem rowOf_decodeCsr (access : BitVec 41) : rowOf (decodeCsr access) = none := by
  simp only [decodeCsr]
  split
  · exact rowOf_selectCsrWrite _ _
  · split <;> rfl

/-- No port word is a frame row (R64). -/
theorem rowOf_decodePort {w : PortWord} {i : Instr} (h : decodePort w = .ok i) : rowOf i = none := by
  cases w with
  | csr access =>
    cases h
    exact rowOf_decodeCsr access
  | ack f =>
    simp only [decodePort, decodeAck] at h
    split at h
    · cases h
      rfl
    · cases h
  | rx _ | recPeek | ackPeek | hreset =>
    cases h
    rfl

/-- A step does nothing, or executes an instruction that is no frame row. -/
theorem step_cases {s t : State} (h : step s = .next t) :
    t = s ∨ ∃ i rest, rowOf i = none ∧ Effect i { s with inbox := rest } t := by
  cases hs : s.inbox with
  | nil =>
    rw [step_of_inbox_nil hs] at h
    cases h
    exact .inl rfl
  | cons w rest =>
    cases hw : decodePort w with
    | ok i =>
      rw [step_of_decoded hs hw] at h
      exact .inr ⟨i, rest, rowOf_decodePort hw, effect_of_exec h⟩
    | error why =>
      rw [step_of_undecodable hs hw] at h
      cases h

/-- Settles O23: the instructions that a step executes keep the invariant, and it says nothing of the pending operations. -/
theorem stepKeepsStateOk : Obligations.StepKeepsStateOk := by
  intro s t hs h
  obtain rfl | ⟨i, rest, hrow, he⟩ := step_cases h
  · exact hs
  · exact he.keeps_stateOk hrow hs

end Sys2Proof.Machine
end

section
/-! Where the bytes of the stream go (10_state R13, R18; 40_framing R102). -/

namespace Sys2Proof.Machine

open Sys2Proof.Claims Relation

/-- The stream offset behind the last byte of ACC: `HEAD + ACC_LEN` (R13). -/
def streamEnd (s : State) : Word := s.head + BitVec.ofNat 32 s.acc.length

/-- The bytes of the frames whose records are given. -/
def frameBytesOf (records : List Record) : Nat := (records.map fun r => r.raw.length).sum

/-- From `s` to `t` the records `new` are queued, one for each frame counted; HEAD advances by the bytes counted as dropped and the
bytes of those frames; and the end of the stream held in ACC stays where it is. -/
structure Accounts (new : List Record) (s t : State) : Prop where
  recq : t.recq = s.recq ++ new
  streamEnd : streamEnd t = streamEnd s
  head : t.head + s.cntDropped = s.head + t.cntDropped + BitVec.ofNat 32 (frameBytesOf new)
  cntFrames : t.cntFrames = s.cntFrames + BitVec.ofNat 32 new.length

theorem frameBytesOf_append (new new' : List Record) : frameBytesOf (new ++ new') = frameBytesOf new + frameBytesOf new' := by
  simp [frameBytesOf]

namespace Accounts

theorem refl (s : State) : Accounts [] s s :=
  ⟨(List.append_nil _).symm, rfl, by simp [frameBytesOf], by simp⟩

theorem trans {new new' : List Record} {s t u : State} (h : Accounts new s t) (h' : Accounts new' t u) :
    Accounts (new ++ new') s u where
  recq := by rw [h'.recq, h.recq, List.append_assoc]
  streamEnd := h'.streamEnd.trans h.streamEnd
  head := by
    rw [frameBytesOf_append, BitVec.ofNat_add]
    linear_combination h.head + h'.head
  cntFrames := by
    rw [h'.cntFrames, h.cntFrames, List.length_append, BitVec.ofNat_add, BitVec.add_assoc]

end Accounts

/-- Bytes that leave the head of ACC leave the end of the stream where it is (R42). -/
theorem streamEnd_drop {n : Nat} {s : State} (h : n ≤ s.acc.length) : streamEnd (drop n s) = streamEnd s := by
  have hsplit : s.acc.length = n + (s.acc.length - n) := by omega
  rw [streamEnd, streamEnd, drop_head, drop_acc, List.length_drop, BitVec.add_assoc, ← BitVec.ofNat_add, ← hsplit]

/-- A drop with its event is accounted for by CNT_DROPPED (R93, R94, R97, R98, R100). -/
theorem discard_raiseEvent_accounts {n : Nat} {s : State} (h : n ≤ s.acc.length) (e : Event) (o : Word) :
    Accounts [] s (discard n (raiseEvent e o s)) where
  recq := (List.append_nil _).symm
  streamEnd := streamEnd_drop h
  head := by simp [frameBytesOf, BitVec.add_assoc, BitVec.add_comm s.cntDropped]
  cntFrames := by simp

/-- A frame whose record is delivered is accounted for by that record (R101, R110). -/
theorem yield_accounts {extract : Record → Record} {common : Record} {total : Nat} {s : State} (he : s.crcEnforce = false)
    (h : total ≤ s.acc.length) (hraw : (extract common).raw.length = total) :
    Accounts [extract common] s (decodeStep extract common (takeFrame total s)) := by
  obtain ⟨hacc, hhead, -, -, -, hframes, hdropped, -⟩ := decodeStep_frame extract common (takeFrame total s)
  refine ⟨?_, ?_, ?_, ?_⟩
  · obtain ⟨-, htrue, -⟩ | ⟨-, hrecq, -⟩ := decodeStep_queues extract common (takeFrame total s)
    · exact absurd (he.symm.trans htrue) Bool.false_ne_true
    · exact hrecq
  · rw [← streamEnd_drop h, streamEnd, hacc, hhead]
    rfl
  · rw [hhead, hdropped, takeFrame_head, takeFrame_cntDropped]
    simp [frameBytesOf, hraw, BitVec.add_assoc, BitVec.add_comm s.cntDropped]
  · rw [hframes]
    rfl

theorem DetectorMove.accounts {s t : State} (h : DetectorMove s t) (he : s.crcEnforce = false) : ∃ new, Accounts new s t := by
  cases h with
  | garbage => exact ⟨[], discard_raiseEvent_accounts (Nat.le_refl _) _ _⟩
  | resync hk =>
    unfold Machine.resync
    split
    · exact ⟨[], .refl s⟩
    · exact ⟨[], discard_raiseEvent_accounts (Nat.le_of_lt (markerIndex_lt _ _ hk)) _ _⟩
  | fail _ hne => exact ⟨[], discard_raiseEvent_accounts (List.length_pos_iff.mpr hne) _ _⟩
  | yield hd =>
    obtain ⟨_, _, _, heq, hle, hraw, -⟩ := runFrame_record hd
    rw [heq]
    exact ⟨_, yield_accounts he hle hraw⟩

theorem moves_account {s t : State} (h : ReflTransGen DetectorMove s t) (he : s.crcEnforce = false) : ∃ new, Accounts new s t := by
  induction h with
  | refl => exact ⟨[], .refl s⟩
  | tail hbefore hmove ih =>
    obtain ⟨new, hnew⟩ := ih
    obtain ⟨new', hnew'⟩ := hmove.accounts ((moves_advance hbefore).crcEnforce.trans he)
    exact ⟨new ++ new', hnew.trans hnew'⟩

/-- An accepted beat appends its byte and accounts for everything from there (R90). -/
theorem rx_accounts (b : Byte) (last : Bool) (s : State) (hh : s.halted = false) (hroom : s.acc.length ≠ cfg.accCap)
    (he : s.crcEnforce = false) : ∃ new, Accounts new (append b s) (rx b last s) := by
  obtain ⟨htrue, -⟩ | ⟨-, hfull, -⟩ | ⟨-, -, -, heq⟩ | ⟨-, -, -, heq⟩ := rx_cases b last s
  · exact absurd (hh.symm.trans htrue) Bool.false_ne_true
  · exact absurd hfull hroom
  · exact ⟨[], heq ▸ .refl _⟩
  · rw [heq]
    exact moves_account (drain_moves _) he

/-- Settles O31: the moves of the drain account for every byte, one after another. -/
theorem everyByteIsYieldedOrDropped : Obligations.EveryByteIsYieldedOrDropped := by
  intro b last s hh hroom he
  obtain ⟨new, h⟩ := rx_accounts b last s hh hroom he
  refine ⟨_, new, exec_eq_next _ s, h.recq, ?_, h.head, h.cntFrames⟩
  have hend := h.streamEnd
  rw [streamEnd, streamEnd, append_head, append_acc, List.length_append, List.length_singleton] at hend
  exact hend

end Sys2Proof.Machine
end

section
/-! The bytes of ACC as they are consumed: what leaves its head (20_memory R41, R42), and the records and acknowledgements that the
consumed bytes give (20_memory R51; 41_decode_common R112; 44_ack R187). -/

namespace Sys2Proof.Machine

open Sys2Proof.Claims Relation

/-! What leaves the head of ACC. -/

/-- From `s` to `t` the first `n` bytes leave ACC, and HEAD goes with them. -/
structure Consumes (n : Nat) (s t : State) : Prop where
  le : n ≤ s.acc.length
  acc : t.acc = s.acc.drop n
  head : t.head = s.head + BitVec.ofNat 32 n

namespace Consumes

theorem refl (s : State) : Consumes 0 s s := ⟨Nat.zero_le _, rfl, by simp⟩

/-- The bytes that are left. -/
theorem length_acc {n : Nat} {s t : State} (h : Consumes n s t) : t.acc.length = s.acc.length - n := by
  rw [h.acc, List.length_drop]

theorem trans {n m : Nat} {s t u : State} (h : Consumes n s t) (h' : Consumes m t u) : Consumes (n + m) s u where
  le := by
    have hle := h.le
    have hle' := h'.le
    rw [h.length_acc] at hle'
    omega
  acc := by rw [h'.acc, h.acc, List.drop_drop]
  head := by rw [h'.head, h.head, BitVec.ofNat_add, BitVec.add_assoc]

end Consumes

theorem discard_raiseEvent_consumes {n : Nat} {s : State} (h : n ≤ s.acc.length) (e : Event) (o : Word) :
    Consumes n s (discard n (raiseEvent e o s)) := ⟨h, rfl, rfl⟩

theorem yield_consumes {total : Nat} {s : State} (h : total ≤ s.acc.length) (extract : Record → Record) (common : Record) :
    Consumes total s (decodeStep extract common (takeFrame total s)) := by
  obtain ⟨hacc, hhead, -⟩ := decodeStep_frame extract common (takeFrame total s)
  exact ⟨h, hacc, hhead⟩

/-! The record of a frame. -/

theorem extractorOf_seq (proto : Byte) (payload : List Byte) (r : Record) : (extractorOf proto payload r).seq = r.seq := by
  obtain ⟨x, hx⟩ := extractorOf_common proto payload r
  rw [hx]

theorem extractorOf_offset (proto : Byte) (payload : List Byte) (r : Record) :
    (extractorOf proto payload r).offset = r.offset := by
  obtain ⟨x, hx⟩ := extractorOf_common proto payload r
  rw [hx]

/-- The yield of the frame at the head of ACC: its record has the next number, HEAD as its offset, and the bytes that leave ACC as its
RAW (R101, R111, R112). -/
theorem runFrame_delivers {s : State} {i : Instr} {rest : List Byte} (h : decodeFrame s.acc = .ok (i, rest)) :
    ∃ extract common total, runFrame i s = decodeStep extract common (takeFrame total s) ∧ total ≤ s.acc.length
      ∧ (extract common).raw = s.acc.take total ∧ (extract common).seq = s.cntFrames ∧ (extract common).offset = s.head := by
  obtain ⟨p, payload, ser, chk, rfl, -, hb⟩ | ⟨p, payload, rfl, -, hb⟩ := decodeFrame_ok _ _ _ h
  · refine ⟨_, _, _, runFrame_selectStd p payload ser chk s, ?_, ?_, extractorOf_seq p payload _, extractorOf_offset p payload _⟩
    · rw [hb, List.length_append, stdFrame_length]
      omega
    · rw [extractorOf_raw, hb, ← stdFrame_length p payload ser chk, List.take_left]
      rfl
  · refine ⟨_, _, _, runFrame_selectExt p payload s, ?_, ?_, extractorOf_seq p payload _, extractorOf_offset p payload _⟩
    · rw [hb, List.length_append, extFrame_length]
      omega
    · rw [extractorOf_raw, hb, ← extFrame_length p payload, List.take_left]
      rfl

/-! A record's place in ACC. -/

theorem slice_drop (bytes : List Byte) (n a b : Nat) : slice (bytes.drop n) a b = slice bytes (n + a) (n + b) := by
  rw [slice, slice, List.take_drop, List.drop_drop]

/-- The index in the ACC of `s` where a record's frame begins: its OFFSET from HEAD (R112). -/
def startOf (s : State) (r : Record) : Nat := (r.offset - s.head).toNat

/-- A record's RAW is the part of ACC at its OFFSET, and lies in the first `n` bytes. -/
structure Placed (n : Nat) (s : State) (r : Record) : Prop where
  raw : r.raw = slice s.acc (startOf s r) (startOf s r + r.raw.length)
  inside : startOf s r + r.raw.length ≤ n

theorem Placed.mono {n m : Nat} {s : State} {r : Record} (h : Placed n s r) (hnm : n ≤ m) : Placed m s r :=
  ⟨h.raw, h.inside.trans hnm⟩

/-- After `n` bytes have left, a place counts `n` less. ACC is far shorter than the 32-bit range of offsets, so nothing wraps. -/
theorem Consumes.startOf_eq {n m : Nat} {s t : State} {r : Record} (h : Consumes n s t) (hm : m ≤ t.acc.length)
    (hcap : s.acc.length < 2 ^ 32) (hr : Placed m t r) : startOf s r = n + startOf t r := by
  have hle := h.le
  have hinside := hr.inside
  rw [h.length_acc] at hm
  have hshift : r.offset - s.head = BitVec.ofNat 32 n + (r.offset - t.head) := by
    rw [h.head]
    ring
  have hn : (BitVec.ofNat 32 n).toNat = n := Nat.mod_eq_of_lt (by omega)
  unfold startOf at *
  rw [hshift, BitVec.toNat_add, hn]
  exact Nat.mod_eq_of_lt (by omega)

theorem Consumes.placed {n m : Nat} {s t : State} {r : Record} (h : Consumes n s t) (hm : m ≤ t.acc.length)
    (hcap : s.acc.length < 2 ^ 32) (hr : Placed m t r) : Placed (n + m) s r := by
  have hstart := h.startOf_eq hm hcap hr
  have hinside := hr.inside
  refine ⟨?_, by omega⟩
  rw [hstart, Nat.add_assoc, ← slice_drop, ← h.acc]
  exact hr.raw

/-! The records and acknowledgements of the bytes consumed. -/

/-- The acknowledgements that the records ask for, in their order (R187). -/
def acksOf (ackEn : Bool) (records : List Record) : List (List Byte) :=
  if ackEn then (records.filter (·.ack)).map (fun r => buildAck r.serial r.proto) else []

theorem acksOf_nil (ackEn : Bool) : acksOf ackEn [] = [] := by
  cases ackEn <;> rfl

theorem acksOf_append (ackEn : Bool) (new new' : List Record) : acksOf ackEn (new ++ new') = acksOf ackEn new ++ acksOf ackEn new' := by
  cases ackEn <;> simp [acksOf]

theorem acksOf_singleton (ackEn : Bool) (r : Record) :
    acksOf ackEn [r] = if r.ack && ackEn then [buildAck r.serial r.proto] else [] := by
  cases ackEn <;> cases hr : r.ack <;> simp [acksOf, hr]

/-- From `s` to `t` the first `n` bytes of ACC are consumed and give the records `new`, numbered from CNT_FRAMES on, each placed in
these bytes behind the one before it; their acknowledgements are queued in the same order. -/
structure Parses (n : Nat) (new : List Record) (s t : State) : Prop where
  bytes : Consumes n s t
  accounts : Accounts new s t
  ackEn : t.ackEn = s.ackEn
  ackq : t.ackq = s.ackq ++ acksOf s.ackEn new
  seq : ∀ k r, new[k]? = some r → r.seq = s.cntFrames + BitVec.ofNat 32 k
  placed : ∀ r ∈ new, Placed n s r
  order : new.Pairwise fun q r => startOf s q + q.raw.length ≤ startOf s r

namespace Parses

/-- Bytes that give no record. -/
theorem of_no_record {n : Nat} {s t : State} (hbytes : Consumes n s t) (haccounts : Accounts [] s t) (hen : t.ackEn = s.ackEn)
    (hackq : t.ackq = s.ackq) : Parses n [] s t where
  bytes := hbytes
  accounts := haccounts
  ackEn := hen
  ackq := by rw [hackq, acksOf_nil, List.append_nil]
  seq _ _ h := by simp at h
  placed _ h := by simp at h
  order := .nil

theorem refl (s : State) : Parses 0 [] s s := of_no_record (.refl s) (.refl s) rfl rfl

theorem trans {n m : Nat} {new new' : List Record} {s t u : State} (hcap : s.acc.length < 2 ^ 32) (h : Parses n new s t)
    (h' : Parses m new' t u) : Parses (n + m) (new ++ new') s u where
  bytes := h.bytes.trans h'.bytes
  accounts := h.accounts.trans h'.accounts
  ackEn := h'.ackEn.trans h.ackEn
  ackq := by rw [h'.ackq, h.ackq, h.ackEn, acksOf_append, List.append_assoc]
  seq k r hk := by
    obtain hlt | hge := Nat.lt_or_ge k new.length
    · rw [List.getElem?_append_left hlt] at hk
      exact h.seq k r hk
    · rw [List.getElem?_append_right hge] at hk
      rw [h'.seq _ r hk, h.accounts.cntFrames, BitVec.add_assoc, ← BitVec.ofNat_add, Nat.add_sub_cancel' hge]
  placed r hr := by
    obtain hr | hr := List.mem_append.mp hr
    · exact (h.placed r hr).mono (Nat.le_add_right n m)
    · exact h.bytes.placed h'.bytes.le hcap (h'.placed r hr)
  order := by
    have hstart : ∀ r ∈ new', startOf s r = n + startOf t r :=
      fun r hr => h.bytes.startOf_eq h'.bytes.le hcap (h'.placed r hr)
    refine List.pairwise_append.mpr ⟨h.order, h'.order.imp_of_mem fun hq hr hqr => ?_, fun q hq r hr => ?_⟩
    · rw [hstart _ hq, hstart _ hr]
      omega
    · have hinside := (h.placed q hq).inside
      rw [hstart r hr]
      omega

/-- A drop with its event (R93, R94, R97, R98, R100). -/
theorem discard_raiseEvent {n : Nat} {s : State} (h : n ≤ s.acc.length) (e : Event) (o : Word) :
    Parses n [] s (discard n (raiseEvent e o s)) :=
  of_no_record (discard_raiseEvent_consumes h e o) (discard_raiseEvent_accounts h e o) rfl rfl

/-- A frame at the head of ACC (R101, R110, R187). -/
theorem yield {extract : Record → Record} {common : Record} {total : Nat} {s : State} (he : s.crcEnforce = false)
    (hle : total ≤ s.acc.length) (hraw : (extract common).raw = s.acc.take total) (hseq : (extract common).seq = s.cntFrames)
    (hoffset : (extract common).offset = s.head) :
    Parses total [extract common] s (decodeStep extract common (takeFrame total s)) := by
  have hlength : (extract common).raw.length = total := by rw [hraw, List.length_take_of_le hle]
  have hstart : startOf s (extract common) = 0 := by simp [startOf, hoffset]
  refine ⟨yield_consumes hle extract common, yield_accounts he hle hlength, (yield_advances _ _ _ s).ackEn, ?_, ?_, ?_,
    List.pairwise_singleton _ _⟩
  · obtain ⟨-, htrue, -⟩ | ⟨-, -, hackq⟩ := decodeStep_queues extract common (takeFrame total s)
    · exact absurd (he.symm.trans htrue) Bool.false_ne_true
    · rw [hackq, acksOf_singleton, takeFrame_ackEn, takeFrame_ackq]
      split
      · rfl
      · exact (List.append_nil _).symm
  · intro k r hk
    obtain ⟨rfl, rfl⟩ : k = 0 ∧ extract common = r := by simpa [List.getElem?_singleton] using hk
    simpa using hseq
  · intro r hr
    obtain rfl := List.mem_singleton.mp hr
    refine ⟨?_, by omega⟩
    rw [hstart, hlength, Nat.zero_add, hraw]
    rfl

end Parses

/-- A move of the detector changes nothing, drops bytes with an event, or yields the frame at the head of ACC (R91). -/
theorem DetectorMove.drop_or_yield {s t : State} (h : DetectorMove s t) :
    t = s
    ∨ (∃ n e o, t = discard n (raiseEvent e o s) ∧ n ≤ s.acc.length)
    ∨ (∃ extract common total, t = decodeStep extract common (takeFrame total s) ∧ total ≤ s.acc.length
        ∧ (extract common).raw = s.acc.take total ∧ (extract common).seq = s.cntFrames ∧ (extract common).offset = s.head) := by
  cases h with
  | garbage => exact .inr (.inl ⟨_, _, _, rfl, Nat.le_refl _⟩)
  | resync hk =>
    unfold Machine.resync
    split
    · exact .inl rfl
    · exact .inr (.inl ⟨_, _, _, rfl, Nat.le_of_lt (markerIndex_lt _ _ hk)⟩)
  | fail _ hne => exact .inr (.inl ⟨_, _, _, rfl, List.length_pos_iff.mpr hne⟩)
  | yield hd => exact .inr (.inr (runFrame_delivers hd))

theorem DetectorMove.parses {s t : State} (h : DetectorMove s t) (he : s.crcEnforce = false) : ∃ n new, Parses n new s t := by
  obtain rfl | ⟨_, _, _, rfl, hle⟩ | ⟨_, _, _, rfl, hle, hraw, hseq, hoffset⟩ := h.drop_or_yield
  · exact ⟨_, _, .refl _⟩
  · exact ⟨_, _, .discard_raiseEvent hle _ _⟩
  · exact ⟨_, _, .yield he hle hraw hseq hoffset⟩

theorem moves_parse {s t : State} (h : ReflTransGen DetectorMove s t) (he : s.crcEnforce = false) (hcap : s.acc.length < 2 ^ 32) :
    ∃ n new, Parses n new s t := by
  induction h with
  | refl => exact ⟨_, _, .refl s⟩
  | tail hbefore hmove ih =>
    obtain ⟨n, new, hnew⟩ := ih
    obtain ⟨m, new', hnew'⟩ := hmove.parses ((moves_advance hbefore).crcEnforce.trans he)
    exact ⟨_, _, hnew.trans hcap hnew'⟩

/-! The accumulator under every operation (R41, R42). -/

/-- What `DetectorMove.parses` says of ACC holds under either setting of CRC_ENFORCE. -/
theorem DetectorMove.consumes {s t : State} (h : DetectorMove s t) : ∃ n, Consumes n s t := by
  obtain rfl | ⟨_, _, _, rfl, hle⟩ | ⟨_, _, _, rfl, hle, -⟩ := h.drop_or_yield
  · exact ⟨_, .refl _⟩
  · exact ⟨_, discard_raiseEvent_consumes hle _ _⟩
  · exact ⟨_, yield_consumes hle _ _⟩

theorem moves_consume {s t : State} (h : ReflTransGen DetectorMove s t) : ∃ n, Consumes n s t := by
  induction h with
  | refl => exact ⟨0, .refl s⟩
  | tail _ hmove ih =>
    obtain ⟨n, hn⟩ := ih
    obtain ⟨m, hm⟩ := hmove.consumes
    exact ⟨n + m, hn.trans hm⟩

/-- A beat leaves ACC alone, or finds room and appends its byte before bytes are consumed from the head (R90). -/
theorem rx_acc (b : Byte) (last : Bool) (s : State) :
    (rx b last s).acc = s.acc
    ∨ (s.halted = false ∧ s.acc.length ≠ cfg.accCap ∧ ∃ n, (rx b last s).acc = (s.acc ++ [b]).drop n) := by
  obtain ⟨-, h⟩ | ⟨-, -, h⟩ | ⟨hh, hroom, -, h⟩ | ⟨hh, hroom, -, h⟩ := rx_cases b last s <;> rw [h]
  · exact .inl rfl
  · exact .inl rfl
  · exact .inr ⟨hh, hroom, 0, rfl⟩
  · obtain ⟨n, hn⟩ := moves_consume (drain_moves (append b s))
    exact .inr ⟨hh, hroom, n, hn.acc⟩

/-- What an instruction can do to ACC. -/
theorem Effect.acc_cases {i : Instr} {s t : State} (h : Effect i s t) (hcap : s.acc.length ≤ cfg.accCap) :
    (∃ n, t.acc = s.acc.drop n)
    ∨ (∃ b last n, i = .rx b last ∧ s.halted = false ∧ s.acc.length < cfg.accCap ∧ t.acc = (s.acc ++ [b]).drop n) := by
  cases h with
  | @yield extract common total _ =>
    obtain ⟨hacc, -⟩ := decodeStep_frame extract common (takeFrame total s)
    exact .inl ⟨total, hacc⟩
  | @beat b last hi =>
    obtain hacc | ⟨hh, hroom, n, hacc⟩ := rx_acc b last s
    · exact .inl ⟨0, hacc⟩
    · exact .inr ⟨b, last, n, hi, hh, Nat.lt_of_le_of_ne hcap hroom, hacc⟩
  | flush _ | reset _ => exact .inl ⟨s.acc.length, List.drop_length.symm⟩
  | reading _ | idle | control _ | clear _ | crcRestart _ | crcFeed _ | popRec _ | popAck _ | ackRequest _ _ => exact .inl ⟨0, rfl⟩

/-- Settles O28, by the effects of the rows. -/
theorem accumulatorIsAppendedAndDropped : Obligations.AccumulatorIsAppendedAndDropped :=
  fun _ _ _ hcap h => (effect_of_exec h).acc_cases hcap

/-- An accepted beat appends its byte, and what it consumes from there gives its records (R90). -/
theorem rx_parses (b : Byte) (last : Bool) (s : State) (hh : s.halted = false) (hroom : s.acc.length < cfg.accCap)
    (he : s.crcEnforce = false) : ∃ n new, Parses n new (append b s) (rx b last s) := by
  obtain ⟨htrue, -⟩ | ⟨-, hfull, -⟩ | ⟨-, -, -, heq⟩ | ⟨-, -, -, heq⟩ := rx_cases b last s
  · exact absurd (hh.symm.trans htrue) Bool.false_ne_true
  · exact absurd hfull (Nat.ne_of_lt hroom)
  · rw [heq]
    exact ⟨_, _, .refl _⟩
  · have hcap : (append b s).acc.length < 2 ^ 32 := by
      have hvalue : cfg.accCap = 2048 := rfl
      rw [append_acc, List.length_append, List.length_singleton]
      omega
    rw [heq]
    exact moves_parse (drain_moves _) he hcap

/-- Settles O32: the moves of the drain parse the bytes from the head on, one after another. -/
theorem recordsAndAcksInFrameOrder : Obligations.RecordsAndAcksInFrameOrder := by
  intro b last s hh hroom he
  obtain ⟨n, new, h⟩ := rx_parses b last s hh hroom he
  exact ⟨_, new, exec_eq_next _ s, h.accounts.recq,
    fun k r hk => ⟨h.seq k r hk, (h.placed r (List.mem_of_getElem? hk)).raw⟩, h.order, h.ackq⟩

end Sys2Proof.Machine
end

section
/-! What the decoder reads from the encoder's frames and port words, and which row it is (30_encoding R60 to R68, R75 to R78; 44_ack
R185). -/

namespace Sys2Proof.Machine

open Sys2Proof.Claims

/-! The fields of the port words whose operands are narrower than the word (R63, R178, R188). -/

theorem crcDataWord_data (ignored : BitVec 24) (b : Byte) : (ignored ++ b).extractLsb' 0 8 = b := BitVec.extractLsb'_append_eq_right

theorem ackReqWord_proto (ignored p : Byte) (serial : Half) : (ignored ++ p ++ serial).extractLsb' 16 8 = p :=
  (BitVec.extractLsb'_append_eq_of_le (Nat.le_refl 16)).trans BitVec.extractLsb'_append_eq_right

theorem ackReqWord_serial (ignored p : Byte) (serial : Half) : (ignored ++ p ++ serial).extractLsb' 0 16 = serial :=
  BitVec.extractLsb'_append_eq_right

/-- A CMD word holds a byte `k` exactly when bits 31:8 are zero and bits 7:0 are `k` (R24). -/
theorem cmdWord_eq_iff (high : BitVec 24) (c k : Byte) : high ++ c = 0#24 ++ k ↔ high = 0 ∧ c = k := by
  constructor
  · intro h
    have hhigh := congrArg (BitVec.extractLsb' 8 24) h
    have hlow := congrArg (BitVec.extractLsb' 0 8) h
    rw [BitVec.extractLsb'_append_eq_left, BitVec.extractLsb'_append_eq_left] at hhigh
    rw [BitVec.extractLsb'_append_eq_right, BitVec.extractLsb'_append_eq_right] at hlow
    exact ⟨hhigh, hlow⟩
  · rintro ⟨rfl, rfl⟩
    rfl

/-- The 80-bit word of an ACK frame (R63). -/
def ackWord (proto : Byte) (serial crc : Half) : BitVec 80 := 0x787805#24 ++ proto ++ serial ++ crc ++ 0x0D0A#16

theorem encode_ack (proto : Byte) (serial crc : Half) : encode (.ack proto serial crc) = .port (.ack (ackWord proto serial crc)) := rfl

theorem ackWord_start (proto : Byte) (serial crc : Half) : (ackWord proto serial crc).extractLsb' 56 24 = 0x787805 := by
  simp (disch := decide) only [ackWord, BitVec.extractLsb'_append_eq_of_le, Nat.reduceSub]
  rfl

theorem ackWord_proto (proto : Byte) (serial crc : Half) : (ackWord proto serial crc).extractLsb' 48 8 = proto := by
  simp (disch := decide) only [ackWord, BitVec.extractLsb'_append_eq_of_le, Nat.reduceSub, BitVec.extractLsb'_append_eq_right]

theorem ackWord_serial (proto : Byte) (serial crc : Half) : (ackWord proto serial crc).extractLsb' 32 16 = serial := by
  simp (disch := decide) only [ackWord, BitVec.extractLsb'_append_eq_of_le, Nat.reduceSub, BitVec.extractLsb'_append_eq_right]

theorem ackWord_crc (proto : Byte) (serial crc : Half) : (ackWord proto serial crc).extractLsb' 16 16 = crc := by
  simp (disch := decide) only [ackWord, BitVec.extractLsb'_append_eq_of_le, Nat.reduceSub, BitVec.extractLsb'_append_eq_right]

theorem ackWord_stop (proto : Byte) (serial crc : Half) : (ackWord proto serial crc).extractLsb' 0 16 = 0x0D0A :=
  BitVec.extractLsb'_append_eq_right

/-! What the decoder reads from a port word (R63, R64). -/

theorem decodePort_rx (b : Byte) (last : Bool) : decodePort (.rx (BitVec.ofBool last ++ b)) = .ok (.rx b last) := by
  simp only [decodePort, rxWord_data, rxWord_last]

theorem decodePort_csrRead (a : Byte) (ignored : Word) (h : a ≠ 0x30) :
    decodePort (.csr (0#1 ++ a ++ ignored)) = .ok (.csrRead a) := by
  rw [decodePort, decodeCsr_read, if_neg h]

theorem decodePort_crcValue (ignored : Word) : decodePort (.csr (0#1 ++ 0x30#8 ++ ignored)) = .ok .crcValue := by
  rw [decodePort, decodeCsr_read]
  rfl

theorem decodePort_csrWrite (a : Byte) (v : Word) (h : csrWriteHasRow a v = false) :
    decodePort (.csr (1#1 ++ a ++ v)) = .ok (.csrWrite a v) := by
  rw [decodePort, decodeCsr_write, selectCsrWrite_plain a v h]

/-- The five commands, and a write to CMD that is none of them (R24, R204). -/
theorem selectCsrWrite_cmd (v : Word) :
    selectCsrWrite 0x28 v = if v = 1#32 then .cmdFlush else if v = 2#32 then .cmdSreset else if v = 3#32 then .cmdCrcInit
      else if v = 4#32 then .cmdPopRec else if v = 5#32 then .cmdPopAck else .csrWrite 0x28 v := by
  unfold selectCsrWrite
  rw [if_pos rfl]
  split
  · rfl
  · rfl
  · rfl
  · rfl
  · rfl
  · rename_i h1 h2 h3 h4 h5
    rw [if_neg h1, if_neg h2, if_neg h3, if_neg h4, if_neg h5]

theorem decodePort_cmd (high : BitVec 24) (c : Byte) :
    decodePort (.csr (1#1 ++ 0x28#8 ++ (high ++ c))) =
      .ok (if high = 0 ∧ c = 1 then .cmdFlush else if high = 0 ∧ c = 2 then .cmdSreset
        else if high = 0 ∧ c = 3 then .cmdCrcInit else if high = 0 ∧ c = 4 then .cmdPopRec
        else if high = 0 ∧ c = 5 then .cmdPopAck else .csrWrite 0x28 (high ++ c)) := by
  simp only [← cmdWord_eq_iff]
  rw [decodePort, decodeCsr_write]
  exact congrArg Except.ok (selectCsrWrite_cmd (high ++ c))

theorem decodePort_crcData (ignored : BitVec 24) (b : Byte) :
    decodePort (.csr (1#1 ++ 0x2C#8 ++ (ignored ++ b))) = .ok (.crcData b) := by
  rw [decodePort, decodeCsr_write]
  exact congrArg (Except.ok ∘ Instr.crcData) (crcDataWord_data ignored b)

theorem decodePort_ackReq (ignored p : Byte) (serial : Half) :
    decodePort (.csr (1#1 ++ 0x34#8 ++ (ignored ++ p ++ serial))) = .ok (.ackReq p serial) := by
  rw [decodePort, decodeCsr_write]
  exact congrArg Except.ok (congrArg₂ Instr.ackReq (ackReqWord_proto ignored p serial) (ackReqWord_serial ignored p serial))

theorem decodePort_ack (proto : Byte) (serial crc : Half) : decodePort (.ack (ackWord proto serial crc)) = .ok (.ack proto serial crc) := by
  rw [decodePort, decodeAck_of_format ⟨ackWord_start proto serial crc, ackWord_stop proto serial crc⟩, ackWord_proto, ackWord_serial,
    ackWord_crc]

/-- Settles O5, clause by clause. A write to an offset other than 0x28, 0x2C and 0x34 has no row of its own. -/
theorem hostWordsDecode : Obligations.HostWordsDecode := by
  refine ⟨decodePort_rx, decodePort_csrRead, decodePort_crcValue, ?_, decodePort_cmd, decodePort_crcData, decodePort_ackReq⟩
  intro a v hcmd hcrc hack
  refine decodePort_csrWrite a v ?_
  rw [csrWriteHasRow, beq_false_of_ne hcmd, beq_false_of_ne hcrc, beq_false_of_ne hack]
  rfl

/-! The decoder after the encoder (R60 to R64). -/

/-- A port word of the encoder is read back as its instruction. -/
theorem decodePort_encode {i : Instr} {w : PortWord} (hw : wellFormed i = true) (he : encode i = .port w) : decodePort w = .ok i := by
  cases i with
  | ack proto serial crc => cases he; exact decodePort_ack proto serial crc
  | rx data last => cases he; exact decodePort_rx data last
  | csrRead offset => cases he; exact decodePort_csrRead offset 0 (by simpa [wellFormed] using hw)
  | csrWrite offset value => cases he; exact decodePort_csrWrite offset value (by simpa [wellFormed] using hw)
  | cmdFlush => cases he; exact decodePort_cmd 0 1
  | cmdSreset => cases he; exact decodePort_cmd 0 2
  | cmdCrcInit => cases he; exact decodePort_cmd 0 3
  | cmdPopRec => cases he; exact decodePort_cmd 0 4
  | cmdPopAck => cases he; exact decodePort_cmd 0 5
  | crcData data => cases he; exact decodePort_crcData 0 data
  | crcValue => cases he; exact decodePort_crcValue 0
  | ackReq proto serial => cases he; exact decodePort_ackReq 0 proto serial
  | recPeek | ackPeek | hreset => cases he; rfl
  | _ => cases he

/-- Settles O2: a frame row's bytes are an STD or an EXT frame, and the decoder reads both whatever follows. -/
theorem frameAtTheHeadIsDecoded : Obligations.FrameAtTheHeadIsDecoded := by
  rintro i F rest ⟨hw, he⟩
  obtain ⟨proto, payload, serial, checksum, rfl, hp, rfl⟩ | ⟨proto, payload, rfl, hp, rfl⟩ := frame_cases i F hw he
  · exact decodeStd_frame proto payload serial checksum rest hp
  · exact decodeExt_frame proto payload rest hp

theorem decode_of_decodeFrame {bytes : List Byte} {i : Instr} (h : decodeFrame bytes = .ok (i, [])) : decode (.frame bytes) = .ok i := by
  rw [decode, h]

/-- Settles O1: a frame is the one at the head with nothing after it (O2), any other row is a port word. -/
theorem decodeEncodeAgree : Obligations.DecodeEncodeAgree := by
  intro i hw
  cases he : encode i with
  | frame F =>
    have hhead := frameAtTheHeadIsDecoded i F [] ⟨hw, he⟩
    rw [List.append_nil] at hhead
    exact decode_of_decodeFrame hhead
  | port w => exact decodePort_encode hw he

/-- Settles O6: the samples are the encoder's words of these instructions (O1), the ACK word whatever its CRC; the runt is evaluated. -/
theorem sampleWordsDecode : Obligations.SampleWordsDecode :=
  ⟨decodeEncodeAgree (.login [] 0x0001 0xD9DC) rfl, decodeEncodeAgree (.status [0xC5, 0x01, 0x90] 0x0006 0x8186) rfl,
    decodeEncodeAgree (.extCmd98X [0x48, 0x49]) rfl, rfl, decodeEncodeAgree (.rx 0x78 true) rfl, decodeEncodeAgree .cmdPopRec rfl,
    decodePort_ack 0x01 0x0001 0xD9DC⟩

/-! The row of a frame (R67, R68). -/

/-- The codes of the rules' map are the codes that the model knows. -/
theorem unlisted_iff (p : Byte) : (∀ row ∈ codeMap, row.1 ≠ p) ↔ knownCodes.contains p = false := by
  rw [show knownCodes = codeMap.map Prod.fst from rfl, List.contains_eq_mem, decide_eq_false_iff_not, List.mem_map]
  exact ⟨fun h ⟨row, hrow, hp⟩ => h row hrow hp, fun h row hrow hp => h ⟨row, hrow, hp⟩⟩

theorem rowOf_selectStd (proto : Byte) (payload : List Byte) (serial checksum : Half) :
    rowOf (selectStd proto payload serial checksum) = some (true, proto) := by
  unfold selectStd
  split <;> rfl

theorem rowOf_selectExt (proto : Byte) (payload : List Byte) : rowOf (selectExt proto payload) = some (false, proto) := by
  unfold selectExt
  split <;> rfl

/-- A well-formed UNKNOWN row is for a code outside R68. -/
theorem unlisted_of_unknown {i : Instr} {std : Bool} {p : Byte} (hw : wellFormed i = true) (hrow : rowOf i = some (std, p))
    (hi : (∃ p P ser chk, i = .unknown p P ser chk) ∨ (∃ p P, i = .unknownX p P)) : knownCodes.contains p = false := by
  obtain ⟨q, P, ser, chk, rfl⟩ | ⟨q, P, rfl⟩ := hi
  all_goals
    cases hrow
    obtain ⟨hcode, -⟩ := Bool.and_eq_true_iff.mp hw
    exact (Bool.not_eq_true' _).mp hcode

/-- Settles O4: the bytes are an STD or an EXT frame of the row that the selector gives for their code, and the selectors give UNKNOWN for
the codes outside R68 only. -/
theorem rowIsChosenByFormatAndCode : Obligations.RowIsChosenByFormatAndCode := by
  rintro i F ⟨hw, he⟩
  obtain ⟨proto, payload, serial, checksum, rfl, -, rfl⟩ | ⟨proto, payload, rfl, -, rfl⟩ := frame_cases i F hw he
  · have hrow := rowOf_selectStd proto payload serial checksum
    refine ⟨hrow, fun hi => (unlisted_iff proto).mpr (unlisted_of_unknown hw hrow hi), fun h => ?_⟩
    exact .inl ⟨_, _, _, _, selectStd_unknown proto payload serial checksum ((unlisted_iff proto).mp h)⟩
  · have hrow := rowOf_selectExt proto payload
    refine ⟨hrow, fun hi => (unlisted_iff proto).mpr (unlisted_of_unknown hw hrow hi), fun h => ?_⟩
    exact .inr ⟨_, _, selectExt_unknown proto payload ((unlisted_iff proto).mp h)⟩

/-! The tables by protocol code (R68, R75 to R78). -/

theorem nameOf_of_unlisted {p : Byte} (h : knownCodes.contains p = false) : nameOf p = 0 := by
  unfold nameOf
  split
  case h_20 => rfl
  all_goals exact absurd h (by decide)

theorem kindOf_of_unlisted {p : Byte} (h : knownCodes.contains p = false) : kindOf p = 0 := by
  unfold kindOf
  split
  case h_14 => rfl
  all_goals exact absurd h (by decide)

theorem contains_eq_false_of_subset {codes codes' : List Byte} {p : Byte} (hsub : codes ⊆ codes') (h : codes'.contains p = false) :
    codes.contains p = false := by
  rw [List.contains_eq_mem, decide_eq_false_iff_not] at *
  exact fun hp => h (hsub hp)

theorem inAckSet_of_unlisted {p : Byte} (h : knownCodes.contains p = false) : inAckSet p = false :=
  contains_eq_false_of_subset (by decide) h

theorem inTextSet_of_unlisted {p : Byte} (h : knownCodes.contains p = false) : inTextSet p = false :=
  contains_eq_false_of_subset (by decide) h

/-- Settles O7: the nineteen rows by evaluation, every other byte by the tables' default. -/
theorem protocolCodeMap : Obligations.ProtocolCodeMap := by
  refine ⟨List.forall_iff_forall_mem.mp (by decide), fun p h => ?_⟩
  have hp := (unlisted_iff p).mp h
  exact ⟨nameOf_of_unlisted hp, kindOf_of_unlisted hp, inAckSet_of_unlisted hp, inTextSet_of_unlisted hp⟩

/-! The ACK row (R63, R185). -/

/-- The fields of an ACK word as one number, the first byte most significant (R80). -/
theorem ackWord_toNat (proto : Byte) (serial crc : Half) :
    (ackWord proto serial crc).toNat
      = (((0x787805 * 2 ^ 8 + proto.toNat) * 2 ^ 16 + serial.toNat) * 2 ^ 16 + crc.toNat) * 2 ^ 16 + 0x0D0A := by
  simp only [ackWord, toNat_append_add, BitVec.toNat_ofNat]

theorem toNat_eq_hi8_lo8 (w : Half) : w.toNat = (hi8 w).toNat * 256 + (lo8 w).toNat := by
  rw [← be16_toNat, be16_hi_lo]

/-- The builder's ten bytes are the bytes of the ACK word that carries the builder's CRC (R63, R185). -/
theorem ackWord_toNat_eq_BE (serial : Half) (proto : Byte) :
    (ackWord proto serial (crc16 [0x05, proto, hi8 serial, lo8 serial])).toNat = BE (buildAck serial proto) := by
  rw [ackWord_toNat, buildAck, toNat_eq_hi8_lo8 serial, toNat_eq_hi8_lo8 (crc16 _)]
  simp only [BE, List.length_cons, List.length_nil, BitVec.reduceToNat]
  omega

/-- Settles O52: `execAck` is pure, and a well-formed ACK word carries the CRC that the builder computes. -/
theorem ackRowIsTheBuilder : Obligations.AckRowIsTheBuilder := by
  intro p serial crc s
  refine ⟨exec_eq_next _ s, fun hw => ⟨_, encode_ack p serial crc, ?_⟩⟩
  have hcrc : crc = crc16 [0x05, p, hi8 serial, lo8 serial] := eq_of_beq hw
  rw [hcrc, ackWord_toNat_eq_BE]

end Sys2Proof.Machine
end

section
/-! The detector's tests by the raw bytes: the scan for a marker pair (40_framing R93), and what the decoder answers on a candidate, in
the order of R91 (R95 to R101). -/

namespace Sys2Proof.Machine

open Sys2Proof.Claims

/-! Marker pairs. -/

theorem isPair_cons_zero (b0 b1 : Byte) (rest : List Byte) :
    isPair (b0 :: b1 :: rest) 0 ↔ b0 = b1 ∧ (b0 = 0x78 ∨ b0 = 0x79) := by
  simp [isPair, byteAt]

theorem isPair_cons_succ (b : Byte) (bytes : List Byte) (k : Nat) : isPair (b :: bytes) (k + 1) ↔ isPair bytes k := by
  simp [isPair, byteAt]

theorem not_isPair_of_length {bytes : List Byte} (h : bytes.length < 2) (k : Nat) : ¬ isPair bytes k := by
  rintro ⟨hk, -⟩
  omega

theorem byteAt_drop (bytes : List Byte) (n k : Nat) : byteAt (bytes.drop n) k = byteAt bytes (n + k) := by
  simp [byteAt, List.getD_eq_getElem?_getD]

theorem isPair_drop (bytes : List Byte) (n k : Nat) : isPair (bytes.drop n) k ↔ isPair bytes (n + k) := by
  rw [isPair, isPair, byteAt_drop, byteAt_drop, List.length_drop, Nat.add_assoc]
  exact and_congr_left' (by omega)

theorem byteAt_append_left (p q : List Byte) {k : Nat} (h : k < p.length) : byteAt (p ++ q) k = byteAt p k :=
  List.getD_append _ _ _ _ h

/-- Whether a pair stands at `k` is told by the bytes up to `k + 1`. -/
theorem isPair_append_left (p q : List Byte) {k : Nat} (h : k + 1 < p.length) : isPair (p ++ q) k ↔ isPair p k := by
  rw [isPair, isPair, byteAt_append_left p q h, byteAt_append_left p q (Nat.lt_of_succ_lt h), List.length_append]
  exact and_congr_left' (by omega)

/-- The pair at `k` is the first one. -/
def FirstPair (bytes : List Byte) (k : Nat) : Prop := isPair bytes k ∧ ∀ j < k, ¬ isPair bytes j

theorem FirstPair.zero {bytes : List Byte} (h : isPair bytes 0) : FirstPair bytes 0 := ⟨h, fun _ hj => absurd hj (Nat.not_lt_zero _)⟩

theorem FirstPair.cons {b : Byte} {bytes : List Byte} {k : Nat} (hb : ¬ isPair (b :: bytes) 0) (h : FirstPair bytes k) :
    FirstPair (b :: bytes) (k + 1) := by
  refine ⟨(isPair_cons_succ b bytes k).mpr h.1, fun j hj => ?_⟩
  cases j with
  | zero => exact hb
  | succ j => exact (isPair_cons_succ b bytes j).not.mpr (h.2 j (Nat.lt_of_succ_lt_succ hj))

theorem FirstPair.unique {bytes : List Byte} {j k : Nat} (hj : FirstPair bytes j) (hk : FirstPair bytes k) : j = k := by
  obtain h | h | h := Nat.lt_trichotomy j k
  · exact absurd hj.1 (hk.2 j h)
  · exact h
  · exact absurd hk.1 (hj.2 k h)

/-- What the scan finds (R93): one induction along it for both of its answers. -/
theorem markerIndex_spec (bytes : List Byte) :
    (∃ k, markerIndex bytes = some k ∧ FirstPair bytes k) ∨ (markerIndex bytes = none ∧ ∀ k, ¬ isPair bytes k) := by
  induction bytes using markerIndex.induct with
  | case1 b0 b1 rest hpair =>
    exact .inl ⟨0, by rw [markerIndex, if_pos hpair], .zero ((isPair_cons_zero b0 b1 rest).mpr hpair)⟩
  | case2 b0 b1 rest hpair ih =>
    have hhead : ¬ isPair (b0 :: b1 :: rest) 0 := (isPair_cons_zero b0 b1 rest).not.mpr hpair
    rw [markerIndex, if_neg hpair]
    obtain ⟨k, hk, hfirst⟩ | ⟨hnone, hno⟩ := ih
    · exact .inl ⟨k + 1, by rw [hk]; rfl, hfirst.cons hhead⟩
    · refine .inr ⟨by rw [hnone]; rfl, fun k => ?_⟩
      cases k with
      | zero => exact hhead
      | succ k => exact (isPair_cons_succ b0 (b1 :: rest) k).not.mpr (hno k)
  | case3 bytes hshort =>
    match bytes with
    | [] => exact .inr ⟨rfl, not_isPair_of_length (by decide)⟩
    | [b] => exact .inr ⟨rfl, not_isPair_of_length Nat.one_lt_two⟩
    | b0 :: b1 :: rest => exact absurd rfl (hshort b0 b1 rest)

theorem markerIndex_eq_some_iff (bytes : List Byte) (k : Nat) : markerIndex bytes = some k ↔ FirstPair bytes k := by
  obtain ⟨j, hj, hfirst⟩ | ⟨hnone, hno⟩ := markerIndex_spec bytes
  · rw [hj, Option.some_inj]
    exact ⟨fun h => h ▸ hfirst, hfirst.unique⟩
  · rw [hnone]
    exact ⟨fun h => (nomatch h), fun h => absurd h.1 (hno k)⟩

theorem markerIndex_eq_none_iff (bytes : List Byte) : markerIndex bytes = none ↔ ∀ k, ¬ isPair bytes k := by
  obtain ⟨j, hj, hfirst⟩ | ⟨hnone, hno⟩ := markerIndex_spec bytes
  · rw [hj]
    exact ⟨fun h => (nomatch h), fun h => absurd hfirst.1 (h j)⟩
  · exact ⟨fun _ => hno, fun _ => hnone⟩

/-! The decoder by the raw bytes. -/

/-- Why the bytes behind a marker are no frame yet or no frame at all, by the tests of R95 to R100 in the order of R91. -/
def rejection (bytes : List Byte) : Option DecodeReject :=
  if bytes.length < lengthNeed bytes then some .needLength
  else if cfg.maxFrameLen < total bytes then some .overLength
  else if declared bytes < leastLength bytes then some .runt
  else if bytes.length < total bytes then some .needBody
  else if byteAt bytes (total bytes - 2) ≠ 0x0D ∨ byteAt bytes (total bytes - 1) ≠ 0x0A then some .badStop
  else none

theorem not_stopMarkerAt (bytes : List Byte) (n : Nat) :
    (!stopMarkerAt bytes n) = true ↔ byteAt bytes (n - 2) ≠ 0x0D ∨ byteAt bytes (n - 1) ≠ 0x0A := by
  simp only [stopMarkerAt, Bool.not_eq_true', Bool.and_eq_false_iff, beq_eq_false_iff_ne]

/-- The two formats that a marker pair can begin (R60, R67). -/
theorem isPair_zero_cases {bytes : List Byte} (h : isPair bytes 0) :
    (isStd bytes = true ∧ decodeFrame bytes = decodeStd bytes) ∨ (isStd bytes = false ∧ decodeFrame bytes = decodeExt bytes) := by
  match bytes, h with
  | [], h => exact absurd h (not_isPair_of_length (by decide) 0)
  | [b], h => exact absurd h (not_isPair_of_length (bytes := [b]) Nat.one_lt_two 0)
  | b0 :: b1 :: rest, h =>
    obtain ⟨rfl, rfl | rfl⟩ := (isPair_cons_zero b0 b1 rest).mp h
    · exact .inl ⟨rfl, rfl⟩
    · exact .inr ⟨rfl, rfl⟩

theorem decodeFrame_of_not_isPair {bytes : List Byte} (h : ¬ isPair bytes 0) : decodeFrame bytes = .error .noMarker := by
  match bytes with
  | [] | [_] => rfl
  | b0 :: b1 :: rest =>
    rw [isPair_cons_zero] at h
    have hstd : ¬ (b0 = 0x78 ∧ b1 = 0x78) := fun ⟨h0, h1⟩ => h ⟨h0.trans h1.symm, .inl h0⟩
    have hext : ¬ (b0 = 0x79 ∧ b1 = 0x79) := fun ⟨h0, h1⟩ => h ⟨h0.trans h1.symm, .inr h0⟩
    rw [decodeFrame, if_neg hstd, if_neg hext]

/-- The instruction that the bytes of a complete candidate hold (R61, R62, R67). -/
def instructionAt (bytes : List Byte) : Instr :=
  if isStd bytes then
    selectStd (byteAt bytes 3) ((bytes.drop 4).take (declared bytes - 5))
      (be16 (byteAt bytes (total bytes - 6)) (byteAt bytes (total bytes - 5)))
      (be16 (byteAt bytes (total bytes - 4)) (byteAt bytes (total bytes - 3)))
  else selectExt (byteAt bytes 4) ((bytes.drop 5).take (declared bytes - 1))

/-- What the tests of a candidate come to. -/
def verdict (bytes : List Byte) : Except DecodeReject (Instr × List Byte) :=
  match rejection bytes with
  | some why => .error why
  | none => .ok (instructionAt bytes, bytes.drop (total bytes))

theorem decodeStd_eq_verdict {bytes : List Byte} (h : isStd bytes = true) : decodeStd bytes = verdict bytes := by
  simp only [decodeStd, not_stopMarkerAt, verdict, rejection, instructionAt, lengthNeed, leastLength, total, declared, h, if_true]
  split_ifs <;> rfl

theorem decodeExt_eq_verdict {bytes : List Byte} (h : isStd bytes = false) : decodeExt bytes = verdict bytes := by
  simp only [decodeExt, not_stopMarkerAt, verdict, rejection, instructionAt, lengthNeed, leastLength, total, declared, be16_toNat, h,
    Bool.false_eq_true, if_false]
  split_ifs <;> rfl

/-- Behind a marker the decoder makes these tests (R91). -/
theorem decodeFrame_eq_verdict {bytes : List Byte} (h : isPair bytes 0) : decodeFrame bytes = verdict bytes := by
  obtain ⟨hstd, heq⟩ | ⟨hext, heq⟩ := isPair_zero_cases h
  · rw [heq, decodeStd_eq_verdict hstd]
  · rw [heq, decodeExt_eq_verdict hext]

theorem decodeFrame_of_rejection {bytes : List Byte} {why : DecodeReject} (hp : isPair bytes 0) (h : rejection bytes = some why) :
    decodeFrame bytes = .error why := by
  rw [decodeFrame_eq_verdict hp, verdict, h]

theorem decodeFrame_of_no_rejection {bytes : List Byte} (hp : isPair bytes 0) (h : rejection bytes = none) :
    decodeFrame bytes = .ok (instructionAt bytes, bytes.drop (total bytes)) := by
  rw [decodeFrame_eq_verdict hp, verdict, h]

/-- A complete candidate (R101): every test is passed. -/
structure Complete (bytes : List Byte) : Prop where
  least : leastLength bytes ≤ declared bytes
  most : total bytes ≤ cfg.maxFrameLen
  inside : total bytes ≤ bytes.length
  stop : byteAt bytes (total bytes - 2) = 0x0D ∧ byteAt bytes (total bytes - 1) = 0x0A

/-- A candidate that waits for the rest of its bytes (R99): its length field is there and within the limits. -/
structure Waiting (bytes : List Byte) : Prop where
  field : lengthNeed bytes ≤ bytes.length
  least : leastLength bytes ≤ declared bytes
  most : total bytes ≤ cfg.maxFrameLen
  missing : bytes.length < total bytes

theorem complete_of_no_rejection {bytes : List Byte} (h : rejection bytes = none) : Complete bytes := by
  unfold rejection at h
  split_ifs at h with _ hover hrunt hbody hstop
  simp only [not_or, not_not] at hstop
  exact ⟨Nat.le_of_not_lt hrunt, Nat.le_of_not_lt hover, Nat.le_of_not_lt hbody, hstop⟩

theorem Waiting.rejection {bytes : List Byte} (h : Waiting bytes) : rejection bytes = some .needBody := by
  rw [Machine.rejection, if_neg (Nat.not_lt.mpr h.field), if_neg (Nat.not_lt.mpr h.most), if_neg (Nat.not_lt.mpr h.least),
    if_pos h.missing]

/-! Frames. -/

/-- A decoded frame is complete, and what is left is what follows its total length. -/
theorem complete_of_decoded {bytes rest : List Byte} {i : Instr} (h : decodeFrame bytes = .ok (i, rest)) :
    isPair bytes 0 ∧ Complete bytes ∧ rest = bytes.drop (total bytes) := by
  have hp : isPair bytes 0 := by
    by_contra hno
    rw [decodeFrame_of_not_isPair hno] at h
    cases h
  cases hr : rejection bytes with
  | some why =>
    rw [decodeFrame_of_rejection hp hr] at h
    cases h
  | none =>
    rw [decodeFrame_of_no_rejection hp hr] at h
    cases h
    exact ⟨hp, complete_of_no_rejection hr, rfl⟩

theorem decodeFrame_of_isFrame {i : Instr} {F : List Byte} (h : IsFrame i F) : decodeFrame F = .ok (i, []) := by
  have hhead := frameAtTheHeadIsDecoded i F [] h
  rwa [List.append_nil] at hhead

theorem isPair_of_isFrame {i : Instr} {F : List Byte} (h : IsFrame i F) : isPair F 0 := by
  obtain ⟨hp, -, -⟩ := complete_of_decoded (decodeFrame_of_isFrame h)
  exact hp

theorem complete_of_isFrame {i : Instr} {F : List Byte} (h : IsFrame i F) : Complete F := by
  obtain ⟨-, hc, -⟩ := complete_of_decoded (decodeFrame_of_isFrame h)
  exact hc

theorem length_of_isFrame {i : Instr} {F : List Byte} (h : IsFrame i F) : F.length = total F := by
  obtain ⟨-, hc, hrest⟩ := complete_of_decoded (decodeFrame_of_isFrame h)
  exact Nat.le_antisymm (List.drop_eq_nil_iff.mp hrest.symm) hc.inside

/-- The decoder reads an instruction from its frame's bytes only (R67, R101). -/
theorem isFrame_of_decoded {bytes rest : List Byte} {i : Instr} (h : decodeFrame bytes = .ok (i, rest)) :
    ∃ F, IsFrame i F ∧ bytes = F ++ rest := by
  obtain ⟨p, payload, serial, checksum, rfl, hok, hb⟩ | ⟨p, payload, rfl, hok, hb⟩ := decodeFrame_ok bytes i rest h
  · exact ⟨_, ⟨(wellFormed_selectStd _ _ _ _).trans hok, encode_selectStd _ _ _ _⟩, hb⟩
  · exact ⟨_, ⟨(wellFormed_selectExt _ _).trans hok, encode_selectExt _ _⟩, hb⟩

/-- Settles O3: the bytes are those of a frame, and every frame has passed the detector's tests. -/
theorem decodedFrameStoodAtTheHead : Obligations.DecodedFrameStoodAtTheHead := by
  intro bytes rest i h
  obtain ⟨F, hF, hb⟩ := isFrame_of_decoded h
  have hc := complete_of_isFrame hF
  have hlength := length_of_isFrame hF
  obtain ⟨hstop, hstop'⟩ := hc.stop
  rw [← hlength] at hstop hstop'
  exact ⟨F, hF, hb, isPair_of_isFrame hF, hlength, hc.least, hlength ▸ hc.most, hstop, hstop'⟩

end Sys2Proof.Machine
end

section
/-! A beat, a pass of the detector, and the drain that repeats it (40_framing R90 to R104). -/

namespace Sys2Proof.Machine

open Sys2Proof.Claims Relation

/-! The cases of a beat, each under its condition (R90). -/

theorem rx_of_halted {s : State} (h : s.halted = true) (b : Byte) (last : Bool) : rx b last s = s := if_pos h

theorem rx_of_full {s : State} (hh : s.halted = false) (hfull : s.acc.length = cfg.accCap) (b : Byte) (last : Bool) :
    rx b last s = overflow s := by
  rw [rx, if_neg (Bool.eq_false_iff.mp hh), if_pos hfull]

theorem rx_of_room {s : State} (hh : s.halted = false) (hroom : s.acc.length ≠ cfg.accCap) (b : Byte) (last : Bool) :
    rx b last s = if last then drain (append b s) else append b s := by
  rw [rx, if_neg (Bool.eq_false_iff.mp hh), if_neg hroom]

/-- Settles O11: the conditions of R90 are those of `rx`, and OVF has bit 8 and code 6. -/
theorem receiveBeat : Obligations.ReceiveBeat := by
  intro b last s
  refine ⟨fun h => ?_, fun hh hfull => ?_, fun hh hroom => ?_, fun hh hroom => ?_⟩ <;> refine (exec_eq_next _ s).trans ?_
  · exact congrArg _ (rx_of_halted h b last)
  · exact congrArg _ (rx_of_full hh hfull b last)
  · exact congrArg _ (rx_of_room hh hroom b false)
  · exact congrArg _ (rx_of_room hh hroom b true)

/-! The scan's answer in a pass (R93, R94). -/

theorem iteration_of_short {s : State} (h : s.acc.length < 5) : iteration s = .stop s := if_pos h

theorem iteration_of_no_pair {s : State} (h5 : 5 ≤ s.acc.length) (h : ∀ k, ¬ isPair s.acc k) : iteration s = .stop (dropGarbage s) := by
  rw [iteration, if_neg (Nat.not_lt.mpr h5), (markerIndex_eq_none_iff s.acc).mpr h]

theorem iteration_of_firstPair {s : State} {k : Nat} (h5 : 5 ≤ s.acc.length) (h : FirstPair s.acc k) :
    iteration s = candidate (resync k s) := by
  rw [iteration, if_neg (Nat.not_lt.mpr h5), (markerIndex_eq_some_iff s.acc k).mpr h]

theorem isPair_resync {s : State} {k : Nat} (h : FirstPair s.acc k) : isPair (resync k s).acc 0 := by
  rw [resync_acc, isPair_drop]
  exact h.1

/-- Settles O14: the scan by its specification, and GARBAGE has bit 1 and code 1. -/
theorem markerScanAndGarbage : Obligations.MarkerScanAndGarbage := by
  refine fun s => ⟨markerIndex_eq_some_iff s.acc, markerIndex_eq_none_iff s.acc, fun h5 hno => ?_⟩
  rw [iteration_of_no_pair h5 hno, dropGarbage, discard, drop, raiseEvent_acc, List.drop_length]
  rfl

/-- Settles O15: NOISE has bit 0 and no code. -/
theorem noiseResynchronization : Obligations.NoiseResynchronization := by
  intro s k h5 hk hfirst
  refine ⟨(isPair_drop s.acc k 0).mpr hk, ?_⟩
  rw [iteration_of_firstPair h5 ⟨hk, hfirst⟩, resync]
  split <;> rfl

/-! The candidate (R95 to R101). -/

theorem stateAfter_of_isFrame {i : Instr} {F : List Byte} (h : IsFrame i F) (s : State) : stateAfter i s = runFrame i s := by
  obtain ⟨hrow, -⟩ := rowIsChosenByFormatAndCode i F h
  exact stateAfter_of_row i s (by rw [hrow]; exact Option.some_ne_none _)

/-- The frame at the head of ACC is executed (R101, R110). -/
theorem candidate_of_frame {s : State} {i : Instr} {F rest : List Byte} (hF : IsFrame i F) (hacc : s.acc = F ++ rest) :
    candidate s = .again (stateAfter i s) := by
  rw [candidate, hacc, frameAtTheHeadIsDecoded i F rest hF, stateAfter_of_isFrame hF]

/-- What executing a frame row is: its bytes leave ACC, and its decode reads CNT_FRAMES and HEAD only (R101, R110). -/
theorem stateAfter_frame {i : Instr} {F : List Byte} (hF : IsFrame i F) :
    ∃ (extract : Record → Record) (common : Word → Word → Record),
      ∀ s, stateAfter i s = decodeStep extract (common s.cntFrames s.head) (takeFrame F.length s) := by
  obtain ⟨proto, payload, serial, checksum, rfl, -, rfl⟩ | ⟨proto, payload, rfl, -, rfl⟩ := frame_cases i F hF.1 hF.2
  · refine ⟨extractorOf proto payload, stdRecord proto payload serial checksum, fun s => ?_⟩
    rw [stateAfter_of_isFrame hF, runFrame_selectStd, stdFrame_length]
    rfl
  · refine ⟨extractorOf proto payload, extRecord proto payload, fun s => ?_⟩
    rw [stateAfter_of_isFrame hF, runFrame_selectExt, extFrame_length]
    rfl

theorem stateAfter_frame_fields {i : Instr} {F : List Byte} (hF : IsFrame i F) (s : State) :
    (stateAfter i s).acc = s.acc.drop F.length ∧ (stateAfter i s).head = s.head + BitVec.ofNat 32 F.length
      ∧ (stateAfter i s).halted = s.halted ∧ (stateAfter i s).cntFrames = s.cntFrames + 1
      ∧ (stateAfter i s).cntDropped = s.cntDropped := by
  obtain ⟨extract, common, h⟩ := stateAfter_frame hF
  obtain ⟨hacc, hhead, hhalted, -, -, hframes, hdropped, -⟩ :=
    decodeStep_frame extract (common s.cntFrames s.head) (takeFrame F.length s)
  rw [h]
  exact ⟨hacc, hhead, hhalted, hframes, hdropped⟩

/-- Settles O16: the tests are those of `rejection`, one after another; a candidate that passes all of them begins with a frame of its
total length. -/
theorem candidateOutcomes : Obligations.CandidateOutcomes := by
  intro s hp
  have hrej {why : DecodeReject} (h : rejection s.acc = some why) : decodeFrame s.acc = .error why := decodeFrame_of_rejection hp h
  split_ifs with hneed hover hrunt hbody hstop
  · rw [candidate, hrej (if_pos hneed)]
  · rw [candidate, hrej (by rw [rejection, if_neg hneed, if_pos hover])]
    rfl
  · rw [candidate, hrej (by rw [rejection, if_neg hneed, if_neg hover, if_pos hrunt])]
    rfl
  · rw [candidate, hrej (by rw [rejection, if_neg hneed, if_neg hover, if_neg hrunt, if_pos hbody])]
  · rw [candidate, hrej (by rw [rejection, if_neg hneed, if_neg hover, if_neg hrunt, if_neg hbody, if_pos hstop])]
    rfl
  · have hnone : rejection s.acc = none := by
      rw [rejection, if_neg hneed, if_neg hover, if_neg hrunt, if_neg hbody, if_neg hstop]
    obtain ⟨F, hF, hb⟩ := isFrame_of_decoded (decodeFrame_of_no_rejection hp hnone)
    have hlength : F.length = total s.acc := by
      have hsum := congrArg List.length hb
      rw [List.length_append, List.length_drop] at hsum
      omega
    have hhead : s.acc.take (total s.acc) = F := by
      rw [← hlength, hb, List.take_left]
    obtain ⟨hacc, hhd, -, hframes, hdropped⟩ := stateAfter_frame_fields hF s
    rw [hlength] at hacc hhd
    refine ⟨_, _, ?_, exec_eq_next _ s, candidate_of_frame hF hb, hacc, hhd, hframes, hdropped⟩
    rw [hhead]
    exact decode_of_decodeFrame (decodeFrame_of_isFrame hF)

/-! What a pass removes (R102). -/

theorem candidate_again_consumes {s t : State} (h : candidate s = .again t) : ∃ n, 1 ≤ n ∧ Consumes n s t := by
  obtain hc | ⟨e, -, hne, hc⟩ | ⟨i, rest, hd, hc⟩ := candidate_cases s <;> rw [hc] at h
  · cases h
  · cases h
    exact ⟨1, Nat.le_refl 1, discard_raiseEvent_consumes (List.length_pos_iff.mpr hne) e s.head⟩
  · cases h
    obtain ⟨total, extract, common, hseven, -, hsum, -, -, -, heq⟩ := runFrame_decoded s i rest hd
    exact ⟨total, by omega, heq ▸ yield_consumes (by omega) extract common⟩

theorem iteration_again_consumes {s t : State} (h : iteration s = .again t) : ∃ n, 1 ≤ n ∧ Consumes n s t := by
  obtain ⟨-, hi⟩ | ⟨-, -, hi⟩ | ⟨k, -, hk, hi⟩ := iteration_cases s <;> rw [hi] at h
  · cases h
  · cases h
  · obtain ⟨m, hm⟩ := (DetectorMove.resync hk).consumes
    obtain ⟨n, hn, hcand⟩ := candidate_again_consumes h
    exact ⟨m + n, by omega, hm.trans hcand⟩

theorem iteration_consumes (s : State) : ∃ n, Consumes n s (iteration s).state := moves_consume (iteration_moves s)

/-- Settles O17: every move of the detector consumes bytes from the head, and in a pass that goes on one of them is a failure or a
yield. -/
theorem passRemovesAPrefix : Obligations.PassRemovesAPrefix := by
  intro s
  have hpass := iteration_consumes s
  cases hi : iteration s with
  | stop t =>
    rw [hi] at hpass
    obtain ⟨n, hn⟩ := hpass
    exact ⟨n, hn.le, hn.acc, hn.head⟩
  | again t =>
    obtain ⟨n, hpos, hn⟩ := iteration_again_consumes hi
    exact ⟨n, hn.le, hpos, hn.acc, hn.head⟩

/-! The drain as a repetition of the pass (R91, R102). -/

theorem length_lt_of_again {s t : State} (h : iteration s = .again t) : t.acc.length < s.acc.length := by
  obtain ⟨n, hpos, hn⟩ := iteration_again_consumes h
  have hle := hn.le
  rw [hn.length_acc]
  omega

/-- Any fuel above ACC_LEN is enough. -/
theorem drainLoop_fuel (n m : Nat) (s : State) (hn : s.acc.length < n) (hm : s.acc.length < m) : drainLoop n s = drainLoop m s := by
  induction n generalizing m s with
  | zero => exact absurd hn (Nat.not_lt_zero _)
  | succ n ih =>
    cases m with
    | zero => exact absurd hm (Nat.not_lt_zero _)
    | succ m =>
      unfold drainLoop
      cases hi : iteration s with
      | stop t => rfl
      | again t =>
        have hlt := length_lt_of_again hi
        exact ih m t (by omega) (by omega)

theorem drain_of_stop {s t : State} (h : iteration s = .stop t) : drain s = t := by
  rw [drain, drainLoop, h]

theorem drain_of_again {s t : State} (h : iteration s = .again t) : drain s = drain t := by
  rw [drain, drainLoop, h]
  exact drainLoop_fuel _ _ t (length_lt_of_again h) (Nat.lt_succ_self _)

theorem runPasses_eq_drain (n : Nat) (s : State) (h : s.acc.length < n) : runPasses n s = some (drain s) := by
  induction n generalizing s with
  | zero => exact absurd h (Nat.not_lt_zero _)
  | succ n ih =>
    rw [runPasses]
    cases hi : iteration s with
    | stop t => rw [drain_of_stop hi]
    | again t =>
      have hlt := length_lt_of_again hi
      rw [drain_of_again hi]
      exact ih t (by omega)

/-- Settles O12: ACC shrinks with every pass that goes on, so the fuel of the drain is never used up. -/
theorem drainRepeatsThePass : Obligations.DrainRepeatsThePass := by
  intro s
  refine ⟨runPasses_eq_drain _ s (Nat.lt_succ_self _), ?_⟩
  cases hi : iteration s with
  | stop t => exact drain_of_stop hi
  | again t => exact drain_of_again hi

/-- Settles O13: the pass stops, and with it the drain. -/
theorem loopGuard : Obligations.LoopGuard :=
  fun _ h => ⟨iteration_of_short h, drain_of_stop (iteration_of_short h)⟩

/-! What a drain leaves (R103, R104). -/

/-- What a pass that stops leaves in ACC: too few bytes for a pass, or a candidate that waits for the rest of its bytes. -/
def Settled (bytes : List Byte) : Prop := bytes.length < 5 ∨ (isPair bytes 0 ∧ Waiting bytes)

theorem lengthNeed_lt_five (bytes : List Byte) : lengthNeed bytes < 5 := by
  unfold lengthNeed
  split <;> decide

/-- A candidate at which the loop stops stays, and ACC is settled (R95, R99). -/
theorem candidate_stop {s t : State} (hp : isPair s.acc 0) (h : candidate s = .stop t) : t = s ∧ Settled s.acc := by
  have hout := candidateOutcomes s hp
  split_ifs at hout with hneed hover hrunt hbody hstop
  · rw [h] at hout
    cases hout
    exact ⟨rfl, .inl (hneed.trans (lengthNeed_lt_five _))⟩
  · cases h.symm.trans hout
  · cases h.symm.trans hout
  · rw [h] at hout
    cases hout
    exact ⟨rfl, .inr ⟨hp, Nat.le_of_not_lt hneed, Nat.le_of_not_lt hrunt, Nat.le_of_not_lt hover, hbody⟩⟩
  · cases h.symm.trans hout
  · obtain ⟨_, _, -, -, hagain, -⟩ := hout
    cases h.symm.trans hagain

theorem settled_of_stop {s t : State} (h : iteration s = .stop t) : Settled t.acc := by
  obtain ⟨hshort, hi⟩ | ⟨-, -, hi⟩ | ⟨k, -, hk, hi⟩ := iteration_cases s <;> rw [hi] at h
  · cases h
    exact .inl hshort
  · cases h
    exact .inl (by simp [dropGarbage])
  · obtain ⟨rfl, hsettled⟩ := candidate_stop (isPair_resync ((markerIndex_eq_some_iff _ _).mp hk)) h
    exact hsettled

/-- A pass over a settled accumulator stops at once. -/
theorem iteration_of_settled {s : State} (h : Settled s.acc) : iteration s = .stop s := by
  by_cases hshort : s.acc.length < 5
  · exact iteration_of_short hshort
  · obtain ⟨hp, hw⟩ := h.resolve_left hshort
    rw [iteration_of_firstPair (Nat.le_of_not_lt hshort) (.zero hp), resync_zero, candidate,
      decodeFrame_of_rejection hp hw.rejection]

theorem drain_of_settled {s : State} (h : Settled s.acc) : drain s = s := drain_of_stop (iteration_of_settled h)

/-- A drain ends with a pass that stops. -/
theorem drain_stops (s : State) : ∃ u, iteration u = .stop (drain s) := by
  induction hn : s.acc.length using Nat.strong_induction_on generalizing s with
  | _ n ih =>
    cases hi : iteration s with
    | stop t => exact ⟨s, by rw [drain_of_stop hi, hi]⟩
    | again t =>
      rw [drain_of_again hi]
      exact ih _ (hn ▸ length_lt_of_again hi) t rfl

theorem drain_settles (s : State) : Settled (drain s).acc := by
  obtain ⟨_, h⟩ := drain_stops s
  exact settled_of_stop h

/-- Settles O19: what a drain leaves is settled, and a pass over it stops at once. -/
theorem emptyChunkChangesNothing : Obligations.EmptyChunkChangesNothing := fun s => drain_of_settled (drain_settles s)

theorem Settled.length_le {bytes : List Byte} (h : Settled bytes) : bytes.length ≤ cfg.maxFrameLen - 1 := by
  have hmin := cfg.minFrame
  obtain hshort | ⟨-, hw⟩ := h
  · omega
  · have hmost := hw.most
    have hmissing := hw.missing
    omega

/-! A chunk that fits ACC (R90). -/

/-- Bytes appended to ACC one after another. -/
def appendAll (bytes : List Byte) (s : State) : State := { s with acc := s.acc ++ bytes }

theorem appendAll_append (b : Byte) (bytes : List Byte) (s : State) : appendAll bytes (append b s) = appendAll (b :: bytes) s := by
  simp only [appendAll, append, List.append_assoc, List.singleton_append]

theorem appendAll_appendAll (more bytes : List Byte) (s : State) :
    appendAll more (appendAll bytes s) = appendAll (bytes ++ more) s := by
  simp only [appendAll, List.append_assoc]

/-- A chunk that fits is drained as a whole: its last beat alone runs the loop. -/
theorem feed_eq_drain (chunk : List Byte) (s : State) (hne : chunk ≠ []) (hh : s.halted = false)
    (hfit : s.acc.length + chunk.length ≤ cfg.accCap) : feed chunk s = drain (appendAll chunk s) := by
  induction chunk, s using feed.induct with
  | case1 s => exact absurd rfl hne
  | case2 b s =>
    rw [List.length_singleton] at hfit
    rw [feed, rx_of_room hh (by omega)]
    rfl
  | case3 b b' rest s ih =>
    simp only [List.length_cons] at hfit
    have hbeat : rx b false s = append b s := rx_of_room hh (by omega) b false
    rw [feed, ← appendAll_append, ← hbeat]
    rw [hbeat] at ih ⊢
    refine ih (List.cons_ne_nil _ _) hh ?_
    rw [append_acc, List.length_append, List.length_singleton, List.length_cons]
    omega

/-! The flags that a decode leaves alone (R215). -/

/-- A decode can raise CRCERR, SHORT and BADDATE only. -/
theorem decodeStep_flag {e : Event} (he : e ∉ [.crcErr, .short, .badDate]) (extract : Record → Record) (common : Record) (s : State) :
    flagOf e (decodeStep extract common s).status = flagOf e s.status := by
  simp only [List.mem_cons, List.not_mem_nil, or_false, not_or] at he
  obtain ⟨hcrc, hshort, hdate⟩ := he
  obtain ⟨-, -, h⟩ | ⟨-, -, h⟩ | ⟨-, h⟩ := decodeStep_cases extract common s <;> rw [h]
  · simp [flagOf_setFlag, hcrc]
  · simp [deliver_flags, flagOf_setFlag, hcrc, hshort, hdate]
  · simp [deliver_flags, hshort, hdate]

/-- The detector never raises OVF: only a beat that finds ACC full does (R90). -/
theorem DetectorMove.ovf_eq {s t : State} (h : DetectorMove s t) : flagOf .ovf t.status = flagOf .ovf s.status := by
  cases h with
  | garbage => simp [dropGarbage, flagOf_setFlag]
  | resync _ =>
    unfold Machine.resync
    split <;> simp [flagOf_setFlag]
  | fail he _ =>
    simp only [candidateErrors, List.mem_cons, List.not_mem_nil, or_false] at he
    obtain rfl | rfl | rfl := he <;> simp [failCandidate, flagOf_setFlag]
  | yield hd =>
    obtain ⟨_, _, _, -, -, -, -, -, -, heq⟩ := runFrame_decoded _ _ _ hd
    rw [heq, decodeStep_flag (by decide), takeFrame_status]

theorem moves_ovf {s t : State} (h : ReflTransGen DetectorMove s t) : flagOf .ovf t.status = flagOf .ovf s.status := by
  induction h with
  | refl => rfl
  | tail _ hmove ih => exact hmove.ovf_eq.trans ih

/-- A drained accumulator has room for a chunk of at most `ACC_CAP - MAX_FRAME_LEN + 1` bytes (R103). -/
theorem room_for_chunk {acc chunk : List Byte} (hacc : acc.length ≤ cfg.maxFrameLen - 1)
    (hchunk : chunk.length ≤ cfg.accCap - cfg.maxFrameLen + 1) : acc.length + chunk.length ≤ cfg.accCap := by
  have hmin := cfg.minFrame
  have hfits := cfg.fits
  omega

/-- Settles O18: a drain ends settled, and a chunk for which there is room is drained without an overflow. -/
theorem whatADrainLeaves : Obligations.WhatADrainLeaves := by
  refine ⟨fun s => ?_, fun chunk s hne hchunk hacc hh => ?_⟩
  · have hsettled := drain_settles s
    refine ⟨hsettled.length_le, hsettled.imp_right ?_⟩
    exact fun ⟨hp, hw⟩ => ⟨hp, hw.field, hw.missing, hw.most⟩
  · have hmoves := drain_moves (appendAll chunk s)
    rw [feed_eq_drain chunk s hne hh (room_for_chunk hacc hchunk)]
    exact ⟨(moves_halted hmoves).trans hh, (moves_ovf hmoves).trans rfl, (drain_settles _).length_le⟩

end Sys2Proof.Machine
end

section
/-! Streams: the beats of a chunk (40_framing R90), a frame received alone (R101), garbage before a frame (R107), and frames back to
back in any chunks (R105). -/

namespace Sys2Proof.Machine

open Sys2Proof.Claims

/-! The beats of a chunk (R90; 30_encoding R81). -/

/-- The word of each byte, by its place in the stream from `n` on. -/
theorem chunkWords_eq_zipIdx (chunk : List Byte) (n : Nat) :
    chunkWords chunk = (chunk.zipIdx n).map fun c => .rx (BitVec.ofBool (c.2 + 1 == n + chunk.length) ++ c.1) := by
  induction chunk using chunkWords.induct generalizing n with
  | case1 => rfl
  | case2 b => simp [chunkWords]
  | case3 b b' rest ih =>
    have hlast : (n + 1 == n + (b :: b' :: rest).length) = false := by simp
    have hlength : n + (b :: b' :: rest).length = n + 1 + (b' :: rest).length := by
      simp only [List.length_cons]
      omega
    rw [chunkWords, List.zipIdx_cons, List.map_cons, hlast, ih (n + 1), hlength]
    rfl

/-- The host's pending operations, put in place. -/
def withPending (words : List PortWord) (s : State) : State := { s with inbox := words }

/-- A pending beat is taken by the next step. -/
theorem steps_succ_of_beat {s : State} {b : Byte} {last : Bool} {rest : List PortWord} (n : Nat)
    (h : s.inbox = .rx (BitVec.ofBool last ++ b) :: rest) : steps (n + 1) s = steps n (rx b last (withPending rest s)) := by
  rw [steps, step_of_decoded h (decodePort_rx b last), exec_eq_next]
  rfl

/-- A beat that does not end a chunk neither reads nor changes the pending operations. -/
theorem rx_withPending (b : Byte) (words : List PortWord) (s : State) :
    rx b false (withPending words s) = withPending words (rx b false s) := by
  obtain ⟨hh, h⟩ | ⟨hh, hfull, h⟩ | ⟨hh, hroom, -, h⟩ | ⟨-, -, hlast, -⟩ := rx_cases b false s
  · rw [h]
    exact rx_of_halted (s := withPending words s) hh b false
  · rw [h]
    exact rx_of_full (s := withPending words s) hh hfull b false
  · rw [h]
    exact rx_of_room (s := withPending words s) hh hroom b false
  · cases hlast

theorem steps_chunk (chunk : List Byte) (s : State) (later : List PortWord) (h : s.inbox = chunkWords chunk ++ later) :
    steps chunk.length s = some (feed chunk (withPending later s)) := by
  induction chunk using chunkWords.induct generalizing s with
  | case1 =>
    obtain rfl : s.inbox = later := h
    rfl
  | case2 b => exact steps_succ_of_beat (last := true) 0 h
  | case3 b b' rest ih =>
    have hstep := steps_succ_of_beat (last := false) (b' :: rest).length h
    rw [rx_withPending] at hstep
    refine hstep.trans ((ih _ rfl).trans ?_)
    rw [feed, rx_withPending]
    rfl

/-- Settles O20, by induction on the chunk. -/
theorem chunkIsItsBeats : Obligations.ChunkIsItsBeats := by
  refine fun chunk s later h => ⟨?_, steps_chunk chunk s later h⟩
  simpa only [Nat.zero_add] using chunkWords_eq_zipIdx chunk 0

/-! One frame (R101, R107). -/

theorem seven_le_length {i : Instr} {F : List Byte} (hF : IsFrame i F) : 7 ≤ F.length := by
  obtain ⟨proto, payload, serial, checksum, -, -, rfl⟩ | ⟨proto, payload, -, -, rfl⟩ := frame_cases i F hF.1 hF.2
  · rw [stdFrame_length]
    omega
  · rw [extFrame_length]
    omega

/-- A frame behind bytes without a pair is the next thing executed, once these bytes have been dropped (R94, R101). -/
theorem drain_of_frame {s : State} {i : Instr} {garbage F rest : List Byte} (hF : IsFrame i F) (hacc : s.acc = garbage ++ (F ++ rest))
    (hfirst : ∀ k < garbage.length, ¬ isPair s.acc k) : drain s = drain (stateAfter i (resync garbage.length s)) := by
  have hseven := seven_le_length hF
  have hdrop : s.acc.drop garbage.length = F ++ rest := by rw [hacc, List.drop_left]
  have hpair : isPair s.acc garbage.length := by
    rw [← Nat.add_zero garbage.length, ← isPair_drop, hdrop, isPair_append_left F rest (by omega)]
    exact isPair_of_isFrame hF
  have hlong : 5 ≤ s.acc.length := by
    rw [hacc, List.length_append, List.length_append]
    omega
  refine drain_of_again ?_
  rw [iteration_of_firstPair hlong ⟨hpair, hfirst⟩, candidate_of_frame hF (by rw [resync_acc, hdrop])]

/-- The frame at the head of ACC is executed first. -/
theorem drain_of_frame_at_head {s : State} {i : Instr} {F rest : List Byte} (hF : IsFrame i F) (hacc : s.acc = F ++ rest) :
    drain s = drain (stateAfter i s) := by
  have h := drain_of_frame (garbage := []) hF hacc fun _ hk => absurd hk (Nat.not_lt_zero _)
  rwa [List.length_nil, resync_zero] at h

theorem stateAfter_acc {s : State} {i : Instr} {F rest : List Byte} (hF : IsFrame i F) (hacc : s.acc = F ++ rest) :
    (stateAfter i s).acc = rest := by
  obtain ⟨h, -⟩ := stateAfter_frame_fields hF s
  rw [h, hacc, List.drop_left]

/-- A drain over an empty accumulator changes nothing. -/
theorem drain_of_empty {s : State} (h : s.acc = []) : drain s = s := drain_of_settled (.inl (by rw [h]; decide))

theorem length_le_accCap {i : Instr} {F : List Byte} (hF : IsFrame i F) : F.length ≤ cfg.accCap := by
  rw [length_of_isFrame hF]
  exact (complete_of_isFrame hF).most.trans cfg.fits

/-- Settles O10: the last beat completes the frame, the drain executes it, and nothing is left to drain. -/
theorem frameReceivedIsExecuted : Obligations.FrameReceivedIsExecuted := by
  intro i F s hF hh hacc
  have hseven := seven_le_length hF
  have hcap := length_le_accCap hF
  have hroom : s.acc.length ≠ cfg.accCap := by
    rw [hacc, List.length_dropLast]
    omega
  have hwhole : append (F.getLastD 0) s = { s with acc := F } := by
    have hne : F ≠ [] := List.ne_nil_of_length_pos (by omega)
    rw [append, hacc, List.getLastD_eq_getLast?, List.getLast?_eq_some_getLast hne, Option.getD_some, List.dropLast_append_getLast]
  have hF' : { s with acc := F }.acc = F ++ [] := (List.append_nil F).symm
  have hrx : rx (F.getLastD 0) true s = stateAfter i { s with acc := F } := by
    rw [rx_of_room hh hroom, if_pos rfl, hwhole, drain_of_frame_at_head hF hF', drain_of_empty (stateAfter_acc hF hF')]
  rw [exec_eq_next, exec_eq_next]
  exact congrArg _ hrx

/-- Settles O22: the first pair is the frame's own marker, so the garbage is dropped and the frame executed. -/
theorem resynchronization : Obligations.Resynchronization := by
  intro garbage F i s hF hno hfit hacc hh
  have hseven := seven_le_length hF
  have hbytes : (appendAll (garbage ++ F) s).acc = garbage ++ (F ++ []) := by
    rw [appendAll, hacc, List.nil_append, List.append_nil]
  have hfirst : ∀ k < garbage.length, ¬ isPair (appendAll (garbage ++ F) s).acc k := by
    intro k hk
    have hinside : k + 1 < (garbage ++ F.take 1).length := by
      rw [List.length_append, List.length_take]
      omega
    rw [hbytes, List.append_nil, ← List.take_append_drop 1 F, ← List.append_assoc, isPair_append_left _ _ hinside]
    exact hno k hk
  have hfeed : feed (garbage ++ F) s = drain (appendAll (garbage ++ F) s) := by
    refine feed_eq_drain _ s (List.ne_nil_of_length_pos ?_) hh ?_
    · rw [List.length_append]
      omega
    · rw [hacc, List.length_append, List.length_nil]
      omega
  have hdrop : (resync garbage.length (appendAll (garbage ++ F) s)).acc = F ++ [] := by
    rw [resync_acc, hbytes, List.drop_left]
  rw [exec_eq_next, hfeed, drain_of_frame hF hbytes hfirst, drain_of_empty (stateAfter_acc hF hdrop)]
  refine congrArg (fun t => Host.Outcome.next (stateAfter i t)) ?_
  cases garbage with
  | nil => simp [appendAll, hacc]
  | cons b rest =>
    rw [resync, discard, drop, raiseEvent_of_no_code _ _ _ rfl]
    simp only [hbytes, List.append_nil, List.drop_left]
    rfl

end Sys2Proof.Machine
end

section
/-! Frames back to back in any chunks (40_framing R105): the bytes at every chunk end are the beginning of one frame, and what is behind
the bytes that a frame takes does not matter to it. -/

namespace Sys2Proof.Machine

open Sys2Proof.Claims

/-! Bytes behind those that an operation reads. -/

theorem raiseEvent_appendAll (e : Event) (o : Word) (more : List Byte) (s : State) :
    raiseEvent e o (appendAll more s) = appendAll more (raiseEvent e o s) := rfl

theorem recordEvents_appendAll (r : Record) (more : List Byte) (s : State) :
    recordEvents r (appendAll more s) = appendAll more (recordEvents r s) := by
  unfold recordEvents
  cases r.short <;> cases r.dt.vDtp && !r.dt.vDt <;> rfl

theorem autoAck_appendAll (r : Record) (more : List Byte) (s : State) :
    autoAck r (appendAll more s) = appendAll more (autoAck r s) := by
  show (if r.ack && s.ackEn then _ else _) = appendAll more (if r.ack && s.ackEn then _ else _)
  split <;> rfl

theorem deliver_appendAll (r : Record) (more : List Byte) (s : State) :
    deliver r (appendAll more s) = appendAll more (deliver r s) := by
  rw [deliver, recordEvents_appendAll]
  exact autoAck_appendAll r more (pushRec r (recordEvents r s))

theorem decodeStep_appendAll (extract : Record → Record) (common : Record) (more : List Byte) (s : State) :
    decodeStep extract common (appendAll more s) = appendAll more (decodeStep extract common s) := by
  unfold decodeStep
  split
  · show (if s.crcEnforce then _ else _) = appendAll more (if s.crcEnforce then _ else _)
    split
    · rfl
    · rw [raiseEvent_appendAll, deliver_appendAll]
  · exact deliver_appendAll _ more s

theorem takeFrame_appendAll {n : Nat} {s : State} (h : n ≤ s.acc.length) (more : List Byte) :
    takeFrame n (appendAll more s) = appendAll more (takeFrame n s) := by
  simp only [takeFrame, drop, appendAll, List.drop_append_of_le_length h]

/-- What follows a frame in ACC is no part of its effect (R101, R110). -/
theorem stateAfter_appendAll {i : Instr} {F : List Byte} {s : State} (hF : IsFrame i F) (h : F.length ≤ s.acc.length)
    (more : List Byte) : stateAfter i (appendAll more s) = appendAll more (stateAfter i s) := by
  obtain ⟨extract, common, heq⟩ := stateAfter_frame hF
  rw [heq, heq, takeFrame_appendAll h, decodeStep_appendAll]
  rfl

/-- A frame's effect on a flag that no decode raises. -/
theorem stateAfter_flag {i : Instr} {F : List Byte} {e : Event} (hF : IsFrame i F) (he : e ∉ [.crcErr, .short, .badDate]) (s : State) :
    flagOf e (stateAfter i s).status = flagOf e s.status := by
  obtain ⟨extract, common, heq⟩ := stateAfter_frame hF
  rw [heq, decodeStep_flag he, takeFrame_status]

/-! Frames executed one after another. -/

/-- Every instruction is a well-formed frame row. -/
def AllFrames (frames : List Instr) : Prop := ∀ i ∈ frames, ∃ F, IsFrame i F

theorem AllFrames.uncons {i : Instr} {frames : List Instr} (h : AllFrames (i :: frames)) :
    (∃ F, IsFrame i F) ∧ AllFrames frames := List.forall_mem_cons.mp h

theorem AllFrames.split {done todo : List Instr} (h : AllFrames (done ++ todo)) : AllFrames done ∧ AllFrames todo :=
  List.forall_mem_append.mp h

theorem frameBytes_of_isFrame {i : Instr} {F : List Byte} (h : IsFrame i F) : frameBytes i = F := by
  rw [frameBytes, h.2]

/-- The bytes of frames back to back. -/
def streamOf (frames : List Instr) : List Byte := frames.flatMap frameBytes

theorem streamOf_cons {i : Instr} {F : List Byte} (h : IsFrame i F) (frames : List Instr) :
    streamOf (i :: frames) = F ++ streamOf frames := by
  rw [streamOf, List.flatMap_cons, frameBytes_of_isFrame h]
  rfl

/-- The state after the frames, one after another. -/
def runFrames : List Instr → State → State
  | [], s => s
  | i :: frames, s => runFrames frames (stateAfter i s)

theorem execAll_eq_runFrames (frames : List Instr) (s : State) : execAll frames s = some (runFrames frames s) := by
  induction frames generalizing s with
  | nil => rfl
  | cons i frames ih =>
    rw [execAll, exec_eq_next]
    exact ih _

theorem runFrames_append (done todo : List Instr) (s : State) : runFrames (done ++ todo) s = runFrames todo (runFrames done s) := by
  induction done generalizing s with
  | nil => rfl
  | cons i done ih => exact ih _

/-- Frames that stand at the head of ACC are what a drain executes first, and nothing but their bytes matters to them. -/
theorem runFrames_at_head {frames : List Instr} {rest : List Byte} {s : State} (hframes : AllFrames frames)
    (hacc : s.acc = streamOf frames ++ rest) :
    (runFrames frames s).acc = rest ∧ drain s = drain (runFrames frames s)
      ∧ ∀ more, runFrames frames (appendAll more s) = appendAll more (runFrames frames s) := by
  induction frames generalizing s with
  | nil => exact ⟨hacc, rfl, fun _ => rfl⟩
  | cons i frames ih =>
    obtain ⟨⟨F, hF⟩, hframes⟩ := hframes.uncons
    rw [streamOf_cons hF, List.append_assoc] at hacc
    have hinside : F.length ≤ s.acc.length := by
      rw [hacc, List.length_append]
      omega
    obtain ⟨hleft, hdrain, happend⟩ := ih hframes (stateAfter_acc hF hacc)
    refine ⟨hleft, (drain_of_frame_at_head hF hacc).trans hdrain, fun more => ?_⟩
    rw [runFrames, stateAfter_appendAll hF hinside, happend]
    rfl

theorem runFrames_halted {frames : List Instr} (hframes : AllFrames frames) (s : State) :
    (runFrames frames s).halted = s.halted := by
  induction frames generalizing s with
  | nil => rfl
  | cons i frames ih =>
    obtain ⟨⟨F, hF⟩, hframes⟩ := hframes.uncons
    obtain ⟨-, -, hhalted, -⟩ := stateAfter_frame_fields hF s
    exact (ih hframes _).trans hhalted

theorem runFrames_flag {frames : List Instr} {e : Event} (hframes : AllFrames frames) (he : e ∉ [.crcErr, .short, .badDate])
    (s : State) : flagOf e (runFrames frames s).status = flagOf e s.status := by
  induction frames generalizing s with
  | nil => rfl
  | cons i frames ih =>
    obtain ⟨⟨F, hF⟩, hframes⟩ := hframes.uncons
    exact (ih hframes _).trans (stateAfter_flag hF he s)

/-! The beginning of a frame. -/

/-- From five bytes on, the beginning of a candidate has the same length field as the whole. -/
theorem header_append {acc more : List Byte} (h : 5 ≤ acc.length) :
    declared (acc ++ more) = declared acc ∧ total (acc ++ more) = total acc ∧ leastLength (acc ++ more) = leastLength acc := by
  have hat {k : Nat} (hk : k < 5) : byteAt (acc ++ more) k = byteAt acc k := byteAt_append_left acc more (by omega)
  have hstd : isStd (acc ++ more) = isStd acc := by rw [isStd, isStd, hat (by decide)]
  have hdeclared : declared (acc ++ more) = declared acc := by
    rw [declared, declared, hstd, hat (by decide), hat (by decide)]
  exact ⟨hdeclared, by rw [total, total, hstd, hdeclared], by rw [leastLength, leastLength, hstd]⟩

/-- A frame of which bytes are missing waits for them (R99). -/
theorem settled_of_frame_begin {i : Instr} {acc missing : List Byte} (hF : IsFrame i (acc ++ missing)) (hne : missing ≠ []) :
    Settled acc := by
  by_cases hshort : acc.length < 5
  · exact .inl hshort
  · obtain ⟨hdeclared, htotal, hleast⟩ := header_append (more := missing) (Nat.le_of_not_lt hshort)
    have hc := complete_of_isFrame hF
    have hpos := List.length_pos_iff.mpr hne
    have hlength := length_of_isFrame hF
    rw [List.length_append, htotal] at hlength
    refine .inr ⟨(isPair_append_left acc missing (by omega)).mp (isPair_of_isFrame hF), ?_, ?_, ?_, by omega⟩
    · have := lengthNeed_lt_five acc
      omega
    · rw [← hdeclared, ← hleast]
      exact hc.least
    · rw [← htotal]
      exact hc.most

/-! A stream cut into chunks (R105). -/

/-- With `rest` still to come, ACC holds the beginning of the first of the frames to come, and not the whole of it. -/
structure Awaits (frames : List Instr) (rest acc : List Byte) : Prop where
  stream : acc ++ rest = streamOf frames
  unfinished : ∀ i ∈ frames.head?, acc.length < (frameBytes i).length

theorem Awaits.settled {frames : List Instr} {rest acc : List Byte} (hframes : AllFrames frames) (h : Awaits frames rest acc) :
    Settled acc := by
  cases frames with
  | nil =>
    obtain ⟨rfl, -⟩ := List.append_eq_nil_iff.mp h.stream
    exact .inl (by decide)
  | cons i frames =>
    obtain ⟨⟨F, hF⟩, -⟩ := hframes.uncons
    have hshort := h.unfinished i rfl
    have hstream := h.stream
    rw [frameBytes_of_isFrame hF] at hshort
    rw [streamOf_cons hF] at hstream
    obtain ⟨missing, rfl⟩ := List.prefix_of_prefix_length_le ⟨rest, hstream⟩ (List.prefix_append F _) (Nat.le_of_lt hshort)
    refine settled_of_frame_begin hF ?_
    rintro rfl
    simp at hshort

/-- With nothing more to come no frame is unfinished. -/
theorem Awaits.finished {frames : List Instr} {acc : List Byte} (h : Awaits frames [] acc) : frames = [] := by
  cases frames with
  | nil => rfl
  | cons i frames =>
    have hshort := h.unfinished i rfl
    have hlength := congrArg List.length h.stream
    rw [List.append_nil, streamOf, List.flatMap_cons, List.length_append] at hlength
    omega

/-- Bytes of a stream are whole frames, and the beginning of the next one. -/
theorem awaits_of_stream {frames : List Instr} {acc rest : List Byte} (h : acc ++ rest = streamOf frames) :
    ∃ done todo left, frames = done ++ todo ∧ acc = streamOf done ++ left ∧ Awaits todo rest left := by
  induction frames generalizing acc with
  | nil => exact ⟨[], [], acc, rfl, rfl, h, fun _ hi => nomatch hi⟩
  | cons i frames ih =>
    by_cases hwhole : (frameBytes i).length ≤ acc.length
    · have hstream : acc ++ rest = frameBytes i ++ streamOf frames := h
      obtain ⟨acc', rfl⟩ := List.prefix_of_prefix_length_le (List.prefix_append _ _) ⟨rest, hstream⟩ hwhole
      rw [List.append_assoc, List.append_cancel_left_eq] at hstream
      obtain ⟨done, todo, left, rfl, rfl, hawaits⟩ := ih hstream
      exact ⟨i :: done, todo, left, rfl, (List.append_assoc _ _ _).symm, hawaits⟩
    · refine ⟨[], i :: frames, acc, rfl, rfl, h, fun j hj => ?_⟩
      obtain rfl : i = j := Option.some.inj hj
      exact Nat.lt_of_not_le hwhole

/-- One chunk of a stream: the frames that it completes are executed, and it ends in the beginning of the next one. -/
theorem feed_stream {frames : List Instr} {chunk rest : List Byte} {s : State} (hframes : AllFrames frames)
    (hsize : chunk.length ≤ cfg.accCap - cfg.maxFrameLen + 1) (hh : s.halted = false) (h : Awaits frames (chunk ++ rest) s.acc) :
    ∃ done todo, frames = done ++ todo ∧ feed chunk s = runFrames done (appendAll chunk s)
      ∧ (appendAll chunk s).acc = streamOf done ++ (feed chunk s).acc ∧ Awaits todo rest (feed chunk s).acc := by
  have hsettled := h.settled hframes
  have hfeed : feed chunk s = drain (appendAll chunk s) := by
    by_cases hne : chunk = []
    · subst hne
      rw [feed, appendAll, List.append_nil]
      exact (drain_of_settled hsettled).symm
    · exact feed_eq_drain chunk s hne hh (room_for_chunk hsettled.length_le hsize)
  have hstream : (appendAll chunk s).acc ++ rest = streamOf frames := (List.append_assoc _ _ _).trans h.stream
  obtain ⟨done, todo, left, rfl, hacc, hawaits⟩ := awaits_of_stream hstream
  obtain ⟨hdone, htodo⟩ := hframes.split
  obtain ⟨hleft, hdrain, -⟩ := runFrames_at_head hdone hacc
  have hrun : feed chunk s = runFrames done (appendAll chunk s) := by
    rw [hfeed, hdrain]
    exact drain_of_settled (hleft ▸ hawaits.settled htodo)
  rw [← hrun] at hleft
  exact ⟨done, todo, rfl, hrun, hleft ▸ hacc, hleft ▸ hawaits⟩

/-- Any number of chunks of a stream: the same, as if their bytes had been there from the first. -/
theorem feedChunks_stream {frames : List Instr} {chunks : List (List Byte)} {rest : List Byte} {s : State} (hframes : AllFrames frames)
    (hsize : ∀ c ∈ chunks, c.length ≤ cfg.accCap - cfg.maxFrameLen + 1) (hh : s.halted = false)
    (h : Awaits frames (chunks.flatten ++ rest) s.acc) :
    ∃ done todo, frames = done ++ todo ∧ feedChunks chunks s = runFrames done (appendAll chunks.flatten s)
      ∧ Awaits todo rest (feedChunks chunks s).acc := by
  induction chunks generalizing frames s with
  | nil =>
    refine ⟨[], frames, rfl, ?_, h⟩
    rw [List.flatten_nil, appendAll, List.append_nil]
    rfl
  | cons chunk chunks ih =>
    obtain ⟨hchunk, hsize⟩ := List.forall_mem_cons.mp hsize
    rw [List.flatten_cons, List.append_assoc] at h
    obtain ⟨done, todo, rfl, hfeed, hacc, hawaits⟩ := feed_stream hframes hchunk hh h
    obtain ⟨hdone, htodo⟩ := hframes.split
    have hh' : (feed chunk s).halted = false := by
      rw [hfeed, runFrames_halted hdone]
      exact hh
    obtain ⟨done', todo', rfl, hfeed', hawaits'⟩ := ih htodo hsize hh' hawaits
    obtain ⟨-, -, happend⟩ := runFrames_at_head hdone hacc
    refine ⟨done ++ done', todo', (List.append_assoc _ _ _).symm, ?_, hawaits'⟩
    calc feedChunks (chunk :: chunks) s
        = runFrames done' (appendAll chunks.flatten (feed chunk s)) := hfeed'
      _ = runFrames done' (appendAll chunks.flatten (runFrames done (appendAll chunk s))) := by rw [← hfeed]
      _ = runFrames (done ++ done') (appendAll (chunk :: chunks).flatten s) := by
        rw [← happend, ← runFrames_append, appendAll_appendAll, List.flatten_cons]

theorem awaits_from_empty {frames : List Instr} {rest : List Byte} (hframes : AllFrames frames) (h : rest = streamOf frames) :
    Awaits frames rest [] := by
  refine ⟨h, fun i hi => ?_⟩
  obtain ⟨F, hF⟩ := hframes i (List.mem_of_mem_head? hi)
  have hseven := seven_le_length hF
  rw [frameBytes_of_isFrame hF, List.length_nil]
  omega

/-- Settles O21: at every chunk end the frames completed have been executed, and ACC holds the beginning of the next one. -/
theorem reassemblyIdempotence : Obligations.ReassemblyIdempotence := by
  intro frames chunks s hframes hstream hsize hacc hh
  have hbefore (before after : List (List Byte)) (hsplit : chunks = before ++ after) :
      ∃ done todo, frames = done ++ todo ∧ feedChunks before s = runFrames done (appendAll before.flatten s)
        ∧ Awaits todo after.flatten (feedChunks before s).acc := by
    subst hsplit
    rw [List.flatten_append] at hstream
    obtain ⟨hsize, -⟩ := List.forall_mem_append.mp hsize
    exact feedChunks_stream hframes hsize hh (hacc ▸ awaits_from_empty hframes hstream)
  refine ⟨?_, fun before after hsplit => ?_⟩
  · obtain ⟨done, todo, rfl, hfeed, hawaits⟩ := hbefore chunks [] (List.append_nil _).symm
    obtain rfl := hawaits.finished
    rw [List.append_nil, execAll_eq_runFrames, hfeed, appendAll, hacc, List.nil_append]
  · obtain ⟨done, todo, rfl, hfeed, hawaits⟩ := hbefore before after hsplit
    obtain ⟨hdone, htodo⟩ := AllFrames.split hframes
    have hflag {e : Event} (he : e ∉ [.crcErr, .short, .badDate]) :
        flagOf e (feedChunks before s).status = flagOf e s.status := by
      rw [hfeed, runFrames_flag hdone he]
      rfl
    exact ⟨(hawaits.settled htodo).imp_right And.left, hflag (e := .noise) (by decide), hflag (e := .garbage) (by decide)⟩

end Sys2Proof.Machine
end

section
/-! The common fields of a frame's record (41_decode_common R110 to R123). -/

namespace Sys2Proof.Machine

open Sys2Proof.Claims

/-! The parts of a frame's bytes (R61, R62). -/

theorem slice_of_append {bytes pre part post : List Byte} {a b : Nat} (hbytes : bytes = pre ++ part ++ post) (ha : pre.length = a)
    (hb : a + part.length = b) : slice bytes a b = part := by
  subst hbytes ha hb
  rw [slice, ← List.length_append, List.take_left, List.drop_left]

theorem BE_hi8_lo8 (w : Half) : BE [hi8 w, lo8 w] = w.toNat := by
  rw [toNat_eq_hi8_lo8 w]
  simp only [BE, List.length_cons, List.length_nil]
  omega

theorem slice_stdFrame_payload (proto : Byte) (payload : List Byte) (serial checksum : Half) :
    slice (stdFrame proto payload serial checksum) 4 (4 + payload.length) = payload :=
  slice_of_append (pre := [0x78, 0x78, stdLen payload, proto])
    (post := [hi8 serial, lo8 serial, hi8 checksum, lo8 checksum, 0x0D, 0x0A]) (by simp [stdFrame, stdCovered]) rfl rfl

theorem slice_stdFrame_covered (proto : Byte) (payload : List Byte) (serial checksum : Half) :
    slice (stdFrame proto payload serial checksum) 2 (payload.length + 6) = stdCovered proto payload serial :=
  slice_of_append (pre := [0x78, 0x78]) (post := [hi8 checksum, lo8 checksum, 0x0D, 0x0A]) rfl rfl
    (by simp only [stdCovered, List.length_cons, List.length_append, List.length_nil]; omega)

theorem slice_stdFrame_serial (proto : Byte) (payload : List Byte) (serial checksum : Half) :
    slice (stdFrame proto payload serial checksum) (payload.length + 4) (payload.length + 6) = [hi8 serial, lo8 serial] :=
  slice_of_append (pre := 0x78 :: 0x78 :: stdLen payload :: proto :: payload)
    (post := [hi8 checksum, lo8 checksum, 0x0D, 0x0A]) (by simp [stdFrame, stdCovered]) rfl rfl

theorem slice_stdFrame_checksum (proto : Byte) (payload : List Byte) (serial checksum : Half) :
    slice (stdFrame proto payload serial checksum) (payload.length + 6) (payload.length + 8) = [hi8 checksum, lo8 checksum] :=
  slice_of_append (pre := 0x78 :: 0x78 :: stdCovered proto payload serial) (post := [0x0D, 0x0A]) (by simp [stdFrame])
    (by simp [stdCovered]) rfl

theorem slice_extFrame_payload (proto : Byte) (payload : List Byte) :
    slice (extFrame proto payload) 5 (5 + payload.length) = payload :=
  slice_of_append (pre := [0x79, 0x79, hi8 (extLen payload), lo8 (extLen payload), proto]) (post := [0x0D, 0x0A]) rfl rfl rfl

theorem declared_stdFrame (proto : Byte) {payload : List Byte} (serial checksum : Half) (h : payload.length ≤ 250) :
    declared (stdFrame proto payload serial checksum) = payload.length + 5 := stdLen_toNat payload h

theorem declared_extFrame (proto : Byte) {payload : List Byte} (h : payload.length ≤ 65534) :
    declared (extFrame proto payload) = payload.length + 1 := by
  rw [← extLen_toNat payload h, toNat_eq_hi8_lo8]
  rfl

/-! What both formats compute alike (R114, R119, R120). -/

theorem inAckSet_eq (p : Byte) : inAckSet p = (p == 0x01 || p == 0x16 || p == 0x19) := by
  simp only [inAckSet, cfg, List.contains_cons, List.contains_nil, Bool.or_false, Bool.or_assoc]

theorem inTextSet_eq (p : Byte) : inTextSet p = (p == 0x98 || p == 0x99) := by
  simp only [inTextSet, cfg, List.contains_cons, List.contains_nil, Bool.or_false]

theorem all_printable_iff (bytes : List Byte) : bytes.all printable = true ↔ ∀ b ∈ bytes, 0x20 ≤ b.toNat ∧ b.toNat ≤ 0x7E := by
  simp only [List.all_eq_true, printable, Bool.and_eq_true, decide_eq_true_eq]

/-! The common fields by format. -/

theorem stdRecord_commonFields (proto : Byte) {payload : List Byte} (serial checksum : Half) (seq off : Word)
    (h : stdPayloadOk payload = true) :
    CommonFields (stdFrame proto payload serial checksum) seq off (stdRecord proto payload serial checksum seq off) := by
  simp only [stdPayloadOk, Bool.and_eq_true, decide_eq_true_eq] at h
  obtain ⟨hpayload, -⟩ := h
  have hstd : isStd (stdFrame proto payload serial checksum) = true := rfl
  have hpayLen : (BitVec.ofNat 16 payload.length).toNat = payload.length := Nat.mod_eq_of_lt (by omega)
  simp only [CommonFields, hstd, if_true, stdFrame_length, declared_stdFrame proto serial checksum hpayload, Nat.add_sub_cancel,
    show payload.length + 10 - 6 = payload.length + 4 from rfl, show payload.length + 10 - 4 = payload.length + 6 from rfl,
    show payload.length + 10 - 2 = payload.length + 8 from rfl, slice_stdFrame_serial, slice_stdFrame_checksum,
    slice_stdFrame_covered, BE_hi8_lo8]
  refine ⟨rfl, Nat.mod_eq_of_lt (by omega), rfl, rfl, rfl, ?len, rfl, rfl, rfl, rfl, hpayLen, ?payEnd, rfl, rfl, rfl, rfl, rfl,
    inAckSet_eq proto, ?print, congrArg (payload.all printable && ·) (inTextSet_eq proto)⟩
  case len =>
    rw [← stdLen_toNat payload hpayload]
    exact BitVec.toNat_setWidth_of_le (by decide)
  case payEnd =>
    change 4 + (BitVec.ofNat 16 payload.length).toNat = _
    rw [hpayLen, Nat.add_comm]
  case print =>
    change payload.all printable = true ↔ ∀ b ∈ slice _ 4 (4 + (BitVec.ofNat 16 payload.length).toNat), _
    rw [hpayLen, slice_stdFrame_payload]
    exact all_printable_iff payload

theorem extRecord_commonFields (proto : Byte) {payload : List Byte} (seq off : Word) (h : extPayloadOk payload = true) :
    CommonFields (extFrame proto payload) seq off (extRecord proto payload seq off) := by
  have hcap := cfg.maxFrame
  simp only [extPayloadOk, decide_eq_true_eq] at h
  have hext : isStd (extFrame proto payload) = false := rfl
  have hpayLen : (BitVec.ofNat 16 payload.length).toNat = payload.length := Nat.mod_eq_of_lt (by omega)
  simp only [CommonFields, hext, Bool.false_eq_true, if_false, Bool.false_and, extFrame_length,
    declared_extFrame proto (payload := payload) (by omega), Nat.add_sub_cancel,
    show payload.length + 7 - 2 = payload.length + 5 from rfl]
  refine ⟨rfl, Nat.mod_eq_of_lt (by omega), rfl, rfl, rfl, extLen_toNat payload (by omega), rfl, rfl, rfl, rfl, hpayLen, ?payEnd,
    rfl, rfl, rfl, rfl, rfl, inAckSet_eq proto, ?print, congrArg (payload.all printable && ·) (inTextSet_eq proto)⟩
  case payEnd =>
    change 5 + (BitVec.ofNat 16 payload.length).toNat = _
    rw [hpayLen, Nat.add_comm]
  case print =>
    change payload.all printable = true ↔ ∀ b ∈ slice _ 5 (5 + (BitVec.ofNat 16 payload.length).toNat), _
    rw [hpayLen, slice_extFrame_payload]
    exact all_printable_iff payload

/-- No extractor writes a common field (R121). -/
theorem extractorOf_commonFields (proto : Byte) (payload : List Byte) {F : List Byte} {seq off : Word} {r : Record}
    (h : CommonFields F seq off r) : CommonFields F seq off (extractorOf proto payload r) := by
  obtain ⟨x, hx⟩ := extractorOf_common proto payload r
  rw [hx]
  exact h

/-- The validator's verdict is the one that the frame's bytes give (R118, R174). -/
theorem crcMismatch_eq_badChecksum {F : List Byte} {seq off : Word} {r : Record} (h : CommonFields F seq off r) :
    crcMismatch r = badChecksum F := by
  obtain ⟨-, -, -, -, -, -, -, -, -, -, -, -, -, hchecksum, hcrc, hchk, hok, -⟩ := h
  rw [crcMismatch, badChecksum, hchk, hok]
  cases hF : isStd F with
  | false => rfl
  | true =>
    rw [hF, if_pos rfl] at hchecksum hcrc
    rw [← hchecksum, ← hcrc, Bool.true_and, Bool.true_and, Bool.true_and, bne, Bool.eq_iff_iff]
    simp only [Bool.not_eq_true', beq_eq_false_iff_ne, ne_eq, BitVec.toNat_inj]

/-! A record at another place (R112, R123). -/

/-- The record as the same frame would have left it with another number, at another offset of the stream. -/
def placedAt (seq off : Word) (r : Record) : Record := { r with seq := seq, offset := off }

theorem extractorOf_placedAt (proto : Byte) (payload : List Byte) (seq off : Word) (r : Record) :
    extractorOf proto payload (placedAt seq off r) = placedAt seq off (extractorOf proto payload r) := by
  unfold extractorOf
  split_ifs <;> rfl

/-! The record of a frame row (R110). -/

/-- Executing a frame row is one decode step on a record with the frame's common fields; the record that its extractor makes of it moves
with SEQ and OFFSET. -/
theorem frame_record {i : Instr} {F : List Byte} (hF : IsFrame i F) :
    ∃ (extract : Record → Record) (common : Word → Word → Record),
      (∀ s, exec i s = .next (decodeStep extract (common s.cntFrames s.head) (takeFrame F.length s)))
      ∧ (∀ seq off, crcMismatch (common seq off) = badChecksum F)
      ∧ (∀ seq off, CommonFields F seq off (extract (common seq off)))
      ∧ (∀ seq off seq' off', extract (common seq' off') = placedAt seq' off' (extract (common seq off))) := by
  obtain ⟨proto, payload, serial, checksum, rfl, hp, rfl⟩ | ⟨proto, payload, rfl, hp, rfl⟩ := frame_cases i F hF.1 hF.2
  · have hcommon (seq off : Word) := stdRecord_commonFields proto serial checksum seq off hp
    refine ⟨extractorOf proto payload, stdRecord proto payload serial checksum, fun s => ?_, fun seq off => ?_,
      fun seq off => ?_, fun seq off seq' off' => ?_⟩
    · rw [exec_selectStd, runFrame_selectStd, stdFrame_length, yieldStd]
    · exact crcMismatch_eq_badChecksum (hcommon seq off)
    · exact extractorOf_commonFields proto payload (hcommon seq off)
    · exact extractorOf_placedAt proto payload seq' off' (stdRecord proto payload serial checksum seq off)
  · have hcommon (seq off : Word) := extRecord_commonFields proto seq off hp
    refine ⟨extractorOf proto payload, extRecord proto payload, fun s => ?_, fun seq off => ?_, fun seq off => ?_,
      fun seq off seq' off' => ?_⟩
    · rw [exec_selectExt, runFrame_selectExt, extFrame_length, yieldExt]
    · exact crcMismatch_eq_badChecksum (hcommon seq off)
    · exact extractorOf_commonFields proto payload (hcommon seq off)
    · exact extractorOf_placedAt proto payload seq' off' (extRecord proto payload seq off)

/-- A decode that pushes a record pushes the extractor's (R110). -/
theorem eq_extract_of_pushed {extract : Record → Record} {common r : Record} {n : Nat} {s : State}
    (h : (decodeStep extract common (takeFrame n s)).recq = s.recq ++ [r]) : r = extract common := by
  obtain ⟨-, -, hrecq, -⟩ | ⟨-, hrecq, -⟩ := decodeStep_queues extract common (takeFrame n s)
  · have hnone : s.recq ++ [r] = s.recq := h.symm.trans hrecq
    simp at hnone
  · have hone : s.recq ++ [r] = s.recq ++ [extract common] := h.symm.trans hrecq
    simpa using hone

/-- Settles O34: a frame that is not discarded leaves the record of `frame_record`. -/
theorem commonFieldsOfEveryFrame : Obligations.CommonFieldsOfEveryFrame := by
  intro i F s hF haccepted
  obtain ⟨extract, common, hexec, hmismatch, hfields, -⟩ := frame_record hF
  refine ⟨_, extract (common s.cntFrames s.head), hexec s, ?_, hfields _ _, seven_le_length hF, ?_⟩
  · obtain ⟨hbad, henforce, -⟩ | ⟨-, hrecq, -⟩ := decodeStep_queues extract (common s.cntFrames s.head) (takeFrame F.length s)
    · have hgood := haccepted henforce
      rw [frameBytes_of_isFrame hF, ← hmismatch, hbad] at hgood
      cases hgood
    · exact hrecq
  · rw [length_of_isFrame hF]
    exact (complete_of_isFrame hF).most

/-- Settles O42: both records are those of `frame_record`, at the places of their states. -/
theorem recordDependsOnTheFrameOnly : Obligations.RecordDependsOnTheFrameOnly := by
  intro i F s1 s2 t1 t2 r1 r2 hF h1 hpush1 h2 hpush2
  obtain ⟨extract, common, hexec, -, hfields, hplaced⟩ := frame_record hF
  rw [hexec] at h1 h2
  cases h1
  cases h2
  obtain rfl := eq_extract_of_pushed hpush1
  obtain rfl := eq_extract_of_pushed hpush2
  obtain ⟨-, -, hseq1, hoff1, -⟩ := hfields s1.cntFrames s1.head
  obtain ⟨-, -, hseq2, hoff2, -⟩ := hfields s2.cntFrames s2.head
  refine ⟨hseq1, hoff1, ?_⟩
  rw [hseq2, hoff2]
  exact (hplaced s1.cntFrames s1.head s2.cntFrames s2.head).symm

end Sys2Proof.Machine
end

section
/-! The fields of a payload (20_memory R44, R45; 30_encoding R66; 42_extractors R130, R133), and the groups that several extractors share
(R131, R132, R134, R135). -/

namespace Sys2Proof.Machine

open Sys2Proof.Claims

/-! Fields (R44, R66, R130). -/

theorem BE_append_singleton (bytes : List Byte) (b : Byte) : BE (bytes ++ [b]) = BE bytes * 256 + b.toNat := by
  induction bytes with
  | nil => simp [BE]
  | cons b0 bytes ih =>
    rw [List.cons_append, BE, BE, ih, List.length_append, List.length_singleton, Nat.pow_succ]
    ring

/-- The model's assembly of a field is the rule's (R7, R44). -/
theorem be_eq_BE (bytes : List Byte) : be bytes = BE bytes := by
  induction bytes using List.reverseRecOn with
  | nil => rfl
  | append_singleton bytes b ih => rw [be_append_singleton, BE_append_singleton, ih]

theorem field_eq_BE_slice (payload : List Byte) (o w : Nat) : field payload o w = BE (slice payload o (o + w)) := by
  rw [field, be_eq_BE, slice, List.take_drop]

/-- A field that fits its register loses no bit. -/
theorem fieldBits_toNat {n w : Nat} (h : 8 * w ≤ n) (payload : List Byte) (o : Nat) :
    (fieldBits n payload o w).toNat = BE (slice payload o (o + w)) := by
  have hfits : field payload o w < 2 ^ n :=
    calc field payload o w < 256 ^ w := field_lt payload o w
      _ = 2 ^ (8 * w) := by rw [Nat.pow_mul]
      _ ≤ 2 ^ n := Nat.pow_le_pow_right (by decide) h
  rw [fieldBits, BitVec.toNat_ofNat, Nat.mod_eq_of_lt hfits, field_eq_BE_slice]

/-- A value read behind its presence test. -/
theorem ite_present {α : Type} (payload : List Byte) (o w : Nat) (x y : α) :
    (if present payload o w then x else y) = if o + w ≤ payload.length then x else y :=
  if_congr (present_iff payload o w) rfl rfl

theorem not_present (payload : List Byte) (o w : Nat) : (!present payload o w) = decide (payload.length < o + w) := by
  simp only [present, ← Nat.not_le, decide_not]

/-- A field that is 0 when it is absent (R25, R130). -/
theorem optionalField_toNat {n w : Nat} (h : 8 * w ≤ n) (payload : List Byte) (o : Nat) :
    (if present payload o w then fieldBits n payload o w else 0).toNat
      = if o + w ≤ payload.length then BE (slice payload o (o + w)) else 0 := by
  rw [ite_present, apply_ite BitVec.toNat, fieldBits_toNat h]
  rfl

theorem highNibble_toNat (b : Byte) : (highNibble b).toNat = b.toNat / 16 := by
  have hb := b.isLt
  rw [highNibble, BitVec.extractLsb'_toNat, Nat.shiftRight_eq_div_pow]
  omega

theorem lowNibble_toNat (b : Byte) : (lowNibble b).toNat = b.toNat % 16 := by
  rw [lowNibble, BitVec.extractLsb'_toNat, Nat.shiftRight_zero]

/-! Coordinates (R133). -/

/-- A coordinate of either sign fits 33 bits: the greatest is 2386092942. -/
theorem signedUdeg_toInt (positive : Bool) (raw : Word) :
    (signedUdeg positive raw).toInt = if positive then (udeg raw.toNat : Int) else -(udeg raw.toNat : Int) := by
  have hraw := raw.isLt
  have hmax : udeg raw.toNat < 2 ^ 32 := by
    unfold udeg
    omega
  rw [signedUdeg]
  refine BitVec.toInt_ofInt_eq_self (by decide) ?_ ?_ <;> split_ifs <;> omega

theorem signedUdeg_not_toInt (negative : Bool) (raw : Word) :
    (signedUdeg (!negative) raw).toInt = if negative then -(udeg raw.toNat : Int) else (udeg raw.toNat : Int) := by
  rw [signedUdeg_toInt]
  cases negative <;> rfl

theorem udeg_cast (raw : Nat) : (udeg raw : Int) = (10 * raw + 9) / 18 := by
  rw [udeg]
  push_cast
  rfl

/-- `9 Udeg` misses `5 raw` by at most 4, and every other multiple of 9 by at least 5. -/
theorem udeg_nearest (raw : Nat) {z : Int} (hz : z ≠ udeg raw) :
    |9 * (udeg raw : Int) - 5 * raw| < |9 * z - 5 * raw| := by
  have hfloor : 18 * udeg raw ≤ 10 * raw + 9 ∧ 10 * raw + 9 < 18 * udeg raw + 18 := by
    unfold udeg
    omega
  have hnear : |9 * (udeg raw : Int) - 5 * raw| ≤ 4 := abs_le.mpr ⟨by omega, by omega⟩
  have hfar : 5 ≤ |9 * z - 5 * raw| := le_abs.mpr (by omega)
  omega

/-- Settles O43: the distance to the nearest integer is at most 4/9, so no other integer is as near. -/
theorem udegIsTheNearestInteger : Obligations.UdegIsTheNearestInteger :=
  ⟨rfl, fun raw => ⟨rfl, fun _ hz => udeg_nearest raw.toNat hz, signedUdeg_toInt true raw, signedUdeg_toInt false raw⟩⟩

/-! The shared groups (R131, R132, R134). -/

theorem dateInRange_iff (mon day hour min sec : Byte) :
    dateInRange mon day hour min sec = true ↔ (1 ≤ mon.toNat ∧ mon.toNat ≤ 12) ∧ (1 ≤ day.toNat ∧ day.toNat ≤ 31)
      ∧ hour.toNat ≤ 23 ∧ min.toNat ≤ 59 ∧ sec.toNat ≤ 59 := by
  simp only [dateInRange, Bool.and_eq_true, decide_eq_true_eq, and_assoc]

theorem dateTimeGroup_at (payload : List Byte) (o : Nat) : DateTimeAt payload o (dateTimeGroup payload o) := by
  refine ⟨rfl, ?year, rfl, rfl, rfl, rfl, rfl, dateInRange_iff _ _ _ _ _⟩
  have hbyte := (byteAt payload o).isLt
  simp only [dateTimeGroup, BitVec.toNat_add, BitVec.toNat_setWidth, BitVec.reduceToNat]
  omega

theorem gpsGroup_at (payload : List Byte) (o : Nat) : GpsAt payload o (gpsGroup payload o) := by
  refine ⟨rfl, highNibble_toNat _, lowNibble_toNat _, fieldBits_toNat (by decide) payload (o + 1),
    fieldBits_toNat (by decide) payload (o + 5), rfl, fieldBits_toNat (by decide) payload (o + 10), ?course, rfl, rfl, rfl, rfl,
    ?latUdeg, ?lonUdeg⟩
  case course =>
    refine (BitVec.extractLsb'_toNat ..).trans ?_
    rw [Nat.shiftRight_zero]
    rfl
  case latUdeg =>
    rw [← udeg_cast]
    exact signedUdeg_toInt _ _
  case lonUdeg =>
    rw [← udeg_cast]
    exact signedUdeg_not_toInt _ _

theorem lbsGroup_at (payload : List Byte) (o : Nat) : LbsAt payload o (lbsGroup payload o) :=
  ⟨rfl, fieldBits_toNat (by decide) payload o, rfl, fieldBits_toNat (by decide) payload (o + 3),
    fieldBits_toNat (by decide) payload (o + 5)⟩

/-! The GPS/LBS path (R135). -/

theorem gpsLbsTail_eq (payload : List Byte) (b : Nat) :
    gpsLbsTail .standard payload b
      = if b + 26 ≤ payload.length then b + 26 else if b + 18 ≤ payload.length then b + 18
        else if b + 6 ≤ payload.length then b + 6 else b := by
  simp only [gpsLbsTail, ite_present]
  rfl

/-- What the path makes of a record without position. The offsets are those of a payload that a 16-bit length counts. -/
theorem gpsLbsPath_from {payload : List Byte} {b : Nat} {r : Record} (hb : b < 65536) (hlen : payload.length < 65536)
    (hr : NoPosition r) (hshort : r.short = false) : GpsLbsFrom b payload (gpsLbsPath .standard payload b r) := by
  obtain ⟨hdt, hgps, hlbs, -, -⟩ := hr
  have htail : (gpsLbsPath .standard payload b r).tailOff.toNat = gpsLbsTail .standard payload b := by
    refine Nat.mod_eq_of_lt ?_
    rw [gpsLbsTail_eq]
    split_ifs <;> omega
  refine ⟨?dt, ?gps, ?lbs, htail.trans (gpsLbsTail_eq payload b), ?tailLen, ?short⟩
  case dt =>
    simp only [gpsLbsPath, ite_present, hdt, GpsOffsets.standard]
    split_ifs
    · exact dateTimeGroup_at payload b
    · rfl
  case gps =>
    simp only [gpsLbsPath, ite_present, hgps, GpsOffsets.standard]
    split_ifs
    · exact gpsGroup_at payload (b + 6)
    · rfl
  case lbs =>
    simp only [gpsLbsPath, ite_present, hlbs, GpsOffsets.standard]
    split_ifs
    · exact lbsGroup_at payload (b + 18)
    · rfl
  case tailLen =>
    rw [htail]
    exact Nat.mod_eq_of_lt (by omega)
  case short =>
    simp only [gpsLbsPath, hshort, not_present, Bool.false_or, GpsOffsets.standard]

end Sys2Proof.Machine
end

section
/-! The record that an extractor starts from, for both rows of a protocol code (30_encoding R67, R68; 41_decode_common R110 to R121). -/

namespace Sys2Proof.Machine

open Sys2Proof.Claims

/-- The STD and the EXT row of a protocol code, with the payload `P` (R67). -/
inductive RowOfCode (proto : Byte) (P : List Byte) : Instr → Prop
  | std (serial checksum : Half) : RowOfCode proto P (selectStd proto P serial checksum)
  | ext : RowOfCode proto P (selectExt proto P)

/-- A record with the common fields of a frame of code `proto` and payload `P`, and with no other field set (R25, R110 to R120). -/
structure FreshRecord (proto : Byte) (P : List Byte) (r : Record) : Prop where
  code : r.proto = proto
  name : r.name = nameOf proto
  kind : r.kind = kindOf proto
  ack : r.ack = inAckSet proto
  print : r.print = P.all printable
  text : r.text = (r.print && inTextSet proto)
  payload : slice r.raw r.payOff.toNat (r.payOff.toNat + r.payLen.toNat) = P
  short : r.short = false
  position : NoPosition r
  login : r.login = {}
  st : r.st = {}
  al : r.al = {}
  wifi : r.wifi = {}
  iccid : r.iccid = {}

theorem payLen_toNat {P : List Byte} (h : P.length < 65536) : (BitVec.ofNat 16 P.length).toNat = P.length := Nat.mod_eq_of_lt h

theorem stdRecord_fresh (proto : Byte) {P : List Byte} (serial checksum : Half) (seq off : Word) (h : P.length < 65536) :
    FreshRecord proto P (stdRecord proto P serial checksum seq off) := by
  refine ⟨rfl, rfl, rfl, rfl, rfl, rfl, ?payload, rfl, ⟨rfl, rfl, rfl, rfl, rfl⟩, rfl, rfl, rfl, rfl, rfl⟩
  change slice _ 4 (4 + (BitVec.ofNat 16 P.length).toNat) = P
  rw [payLen_toNat h]
  exact slice_stdFrame_payload proto P serial checksum

theorem extRecord_fresh (proto : Byte) {P : List Byte} (seq off : Word) (h : P.length < 65536) :
    FreshRecord proto P (extRecord proto P seq off) := by
  refine ⟨rfl, rfl, rfl, rfl, rfl, rfl, ?payload, rfl, ⟨rfl, rfl, rfl, rfl, rfl⟩, rfl, rfl, rfl, rfl, rfl⟩
  change slice _ 5 (5 + (BitVec.ofNat 16 P.length).toNat) = P
  rw [payLen_toNat h]
  exact slice_extFrame_payload proto P

theorem length_of_stdPayloadOk {P : List Byte} (h : stdPayloadOk P = true) : P.length < 65536 := by
  simp only [stdPayloadOk, Bool.and_eq_true, decide_eq_true_eq] at h
  omega

theorem length_of_extPayloadOk {P : List Byte} (h : extPayloadOk P = true) : P.length < 65536 := by
  have hcap := cfg.maxFrame
  simp only [extPayloadOk, decide_eq_true_eq] at h
  omega

namespace RowOfCode

variable {proto : Byte} {P : List Byte} {i : Instr}

theorem of_either {serial checksum : Half} (h : i = selectStd proto P serial checksum ∨ i = selectExt proto P) :
    RowOfCode proto P i := by
  obtain rfl | rfl := h
  · exact .std serial checksum
  · exact .ext

theorem rowOf_eq (h : RowOfCode proto P i) : (rowOf i).map Prod.snd = some proto := by
  cases h with
  | std serial checksum => rw [rowOf_selectStd]; rfl
  | ext => rw [rowOf_selectExt]; rfl

theorem payload_length (h : RowOfCode proto P i) (hw : wellFormed i = true) : P.length < 65536 := by
  cases h with
  | std serial checksum => exact length_of_stdPayloadOk ((wellFormed_selectStd ..).symm.trans hw)
  | ext => exact length_of_extPayloadOk ((wellFormed_selectExt ..).symm.trans hw)

/-- Executing a row is one decode step with the code's extractor, on a record that has the common fields only (R101, R110). -/
theorem exec_eq (h : RowOfCode proto P i) (hw : wellFormed i = true) (s : State) :
    ∃ (n : Nat) (c : Record), exec i s = .next (decodeStep (extractorOf proto P) c (takeFrame n s)) ∧ FreshRecord proto P c
      ∧ crcMismatch c = badChecksum (frameBytes i) := by
  have hlen := h.payload_length hw
  cases h with
  | std serial checksum =>
    have hok : stdPayloadOk P = true := (wellFormed_selectStd ..).symm.trans hw
    refine ⟨_, _, (exec_selectStd ..).trans (congrArg _ (runFrame_selectStd ..)), stdRecord_fresh _ _ _ _ _ hlen, ?_⟩
    rw [frameBytes_of_isFrame ⟨hw, encode_selectStd ..⟩]
    exact crcMismatch_eq_badChecksum (stdRecord_commonFields _ _ _ _ _ hok)
  | ext =>
    have hok : extPayloadOk P = true := (wellFormed_selectExt ..).symm.trans hw
    refine ⟨_, _, (exec_selectExt ..).trans (congrArg _ (runFrame_selectExt ..)), extRecord_fresh _ _ _ hlen, ?_⟩
    rw [frameBytes_of_isFrame ⟨hw, encode_selectExt ..⟩]
    exact crcMismatch_eq_badChecksum (extRecord_commonFields _ _ _ hok)

/-- An accepted row pushes the record that the code's extractor makes of the common fields; without a mismatch its STATUS bits are
those of the record's own events (R110, R121, R131, R175). -/
theorem pushes (h : RowOfCode proto P i) (hw : wellFormed i = true) {s : State} (ha : accepted s i) :
    ∃ (t : State) (c : Record), exec i s = .next t ∧ t.recq = s.recq ++ [extractorOf proto P c] ∧ FreshRecord proto P c
      ∧ (badChecksum (frameBytes i) = false → t.status = s.status ||| (if (extractorOf proto P c).short then 0x040 else 0)
          ||| (if (extractorOf proto P c).dt.vDtp && !(extractorOf proto P c).dt.vDt then 0x080 else 0)) := by
  obtain ⟨n, c, hexec, hc, hmismatch⟩ := h.exec_eq hw s
  refine ⟨_, c, hexec, ?_, hc, fun hgood => ?_⟩
  · obtain ⟨hbad, henforce, -⟩ | ⟨-, hrecq, -⟩ := decodeStep_queues (extractorOf proto P) c (takeFrame n s)
    · have hgood := ha henforce
      rw [← hmismatch, hbad] at hgood
      cases hgood
    · exact hrecq
  · rw [decodeStep_status, hmismatch, hgood, if_neg (by simp), takeFrame_status]
    simp

end RowOfCode

end Sys2Proof.Machine
end

section
/-! The records of the kinds LOGIN, GPSLBS, ALARM, STATUS, WIFI, ICCID and OPAQUE (42_extractors R140 to R163). -/

namespace Sys2Proof.Machine

open Sys2Proof.Claims

/-! LOGIN (R140). -/

/-- Settles O35: each field of `extractLogin` stands behind its presence test. -/
theorem loginFields : Obligations.LoginFields := by
  intro P serial checksum i s hi hw ha
  have hrow : RowOfCode 0x01 P i := .of_either hi
  obtain ⟨t, c, hexec, hpush, hc, -⟩ := hrow.pushes hw ha
  exact ⟨t, extractLogin P c, hexec, hpush, hc.name, hc.kind, hc.ack, not_present P 0 8,
    rfl, optionalField_toNat (by decide) P 0, rfl, optionalField_toNat (by decide) P 8, rfl, optionalField_toNat (by decide) P 10,
    hc.position, hc.st, hc.al, hc.wifi, hc.iccid⟩

/-! GPSLBS (R141, R143 to R149). -/

/-- The two rows of a code as the lists of `Claims` write them: the name, and whether the code is in a set. -/
def codeRows (set : Byte → Bool) (P : List Byte) (serial checksum : Half) (proto : Byte) : List (Instr × BitVec 4 × Bool) :=
  [(selectStd proto P serial checksum, nameOf proto, set proto), (selectExt proto P, nameOf proto, set proto)]

theorem of_mem_codeRows {set : Byte → Bool} {P : List Byte} {serial checksum : Half} {proto : Byte} {row : Instr × BitVec 4 × Bool}
    (h : row ∈ codeRows set P serial checksum proto) : RowOfCode proto P row.1 ∧ row.2 = (nameOf proto, set proto) := by
  obtain rfl | rfl := List.mem_pair.mp h
  · exact ⟨.std serial checksum, rfl⟩
  · exact ⟨.ext, rfl⟩

/-- The codes of kind GPSLBS (R68), in the order of `extractorOf`. -/
def gpsLbsCodes : List Byte := [0x02, 0x10, 0x11, 0x12, 0x22, 0xA0, 0x19, 0x1A]

theorem gpsLbsRows_eq (P : List Byte) (serial checksum : Half) :
    gpsLbsRows P serial checksum = gpsLbsCodes.flatMap (codeRows inAckSet P serial checksum) := rfl

theorem kindOf_gpsLbs : ∀ proto ∈ gpsLbsCodes, kindOf proto = 2 := by decide

theorem extractorOf_gpsLbs {proto : Byte} (h : proto ∈ gpsLbsCodes) : extractorOf proto = extractGpsLbs proto := by
  have hne : proto ≠ 0x01 := by
    rintro rfl
    exact absurd h (by decide)
  rw [extractorOf, if_neg hne]
  exact if_pos h

/-- Settles O36: every code of the family has the standard offsets, and its path begins at payload offset 0. -/
theorem gpsLbsFields : Obligations.GpsLbsFields := by
  intro P serial checksum s row hrow hw ha
  rw [gpsLbsRows_eq] at hrow
  obtain ⟨proto, hproto, hrow⟩ := List.mem_flatMap.mp hrow
  obtain ⟨hcode, hcolumns⟩ := of_mem_codeRows hrow
  obtain ⟨t, c, hexec, hpush, hc, -⟩ := hcode.pushes hw ha
  rw [extractorOf_gpsLbs hproto] at hpush
  rw [hcolumns]
  exact ⟨t, extractGpsLbs proto P c, hexec, hpush, hc.name, hc.kind.trans (kindOf_gpsLbs proto hproto), hc.ack,
    gpsLbsPath_from (by decide) (hcode.payload_length hw) hc.position hc.short, hc.login, hc.st, hc.al, hc.wifi, hc.iccid⟩

/-! ALARM (R152). -/

/-- Settles O37: the alarm byte stands behind its presence test, and the path of R135 begins at payload offset 1. -/
theorem alarmFields : Obligations.AlarmFields := by
  intro P serial checksum i s hi hw ha
  have hrow : RowOfCode 0x16 P i := .of_either hi
  obtain ⟨t, c, hexec, hpush, hc, -⟩ := hrow.pushes hw ha
  have hpath : GpsLbsFrom 1 P (extractAlarm P c) :=
    gpsLbsPath_from (r := { c with al := alarmFlags P }) (by decide) (hrow.payload_length hw) hc.position hc.short
  exact ⟨t, extractAlarm P c, hexec, hpush, hc.name, hc.kind, hc.ack, rfl, ite_present P 0 1 _ _, rfl, rfl, rfl, rfl, rfl, rfl, rfl,
    rfl, hpath, hc.login, hc.st, hc.wifi, hc.iccid⟩

/-! STATUS (R150). -/

theorem signalLevel_toNat (b : Byte) : (b.extractLsb' 6 2).toNat = b.toNat / 64 := by
  have hb := b.isLt
  rw [BitVec.extractLsb'_toNat, Nat.shiftRight_eq_div_pow]
  omega

/-- Settles O38: each field of `extractStatus` stands behind its presence test. -/
theorem statusFields : Obligations.StatusFields := by
  intro P serial checksum i s hi hw ha
  have hrow : RowOfCode 0x13 P i := .of_either hi
  obtain ⟨t, c, hexec, hpush, hc, -⟩ := hrow.pushes hw ha
  exact ⟨t, extractStatus P c, hexec, hpush, hc.name, hc.kind, hc.ack, not_present P 0 4,
    rfl, ite_present P 0 1 _ _, rfl, rfl, rfl, rfl, rfl, rfl, signalLevel_toNat _,
    rfl, optionalField_toNat (by decide) P 1, rfl, ite_present P 3 1 _ _, rfl, optionalField_toNat (by decide) P 4,
    hc.position, hc.login, hc.al, hc.wifi, hc.iccid⟩

/-! WIFI (R154). -/

theorem wifiCount_toNat (P : List Byte) : (BitVec.ofNat 8 (wifiCount P)).toNat = wifiCount P :=
  Nat.mod_eq_of_lt (Nat.lt_of_le_of_lt (wifiCount_le P) (byteAt P 6).isLt)

theorem accessPoint_mac (P : List Byte) (k : Nat) : (accessPoint P k).mac.toNat = BE (slice P (7 + 7 * k) (13 + 7 * k)) := by
  rw [show 13 + 7 * k = 7 + 7 * k + 6 by omega]
  exact fieldBits_toNat (by decide) P (7 + 7 * k)

/-- Entry `k` of the list is access point `k`. -/
theorem accessPoints_getElem? {P : List Byte} {n k : Nat} {ap : ApEntry} (h : ((List.range n).map (accessPoint P))[k]? = some ap) :
    ap = accessPoint P k := by
  rw [List.getElem?_map, Option.map_eq_some_iff] at h
  obtain ⟨j, hj, rfl⟩ := h
  obtain ⟨-, rfl⟩ := List.getElem?_eq_some_iff.mp hj
  rw [List.getElem_range]

/-- The count, the entries and SHORT when the declared count is there (R154). -/
theorem extractWifi_of_count {P : List Byte} (h : 7 ≤ P.length) (r : Record) :
    (extractWifi P r).wifi = { vWn := true, nDecl := byteAt P 6, n := BitVec.ofNat 8 (wifiCount P)
                               ap := (List.range (wifiCount P)).map (accessPoint P) }
      ∧ (extractWifi P r).short = decide (wifiCount P < (byteAt P 6).toNat) := by
  have hpresent : present P 0 7 = true := (present_iff P 0 7).mpr h
  simp only [extractWifi, hpresent, if_true, Bool.not_true, Bool.false_or, and_self]

theorem extractWifi_of_no_count {P : List Byte} (h : P.length < 7) (r : Record) :
    (extractWifi P r).wifi = r.wifi ∧ (extractWifi P r).short = true := by
  have hpresent : present P 0 7 = false := decide_eq_false (Nat.not_le.mpr h)
  simp only [extractWifi, hpresent, Bool.false_eq_true, if_false, Bool.not_false, Bool.true_or, and_self]

/-- Settles O39: the entries are the first WIFI_N access points, and WIFI_N fits the byte that declares them. -/
theorem wifiFields : Obligations.WifiFields := by
  intro P serial checksum i s hi hw ha
  have hrow : RowOfCode 0x30 P i := .of_either hi
  obtain ⟨t, c, hexec, hpush, hc, -⟩ := hrow.pushes hw ha
  obtain ⟨hdt, hgps, hlbs, htailOff, htailLen⟩ := hc.position
  refine ⟨t, extractWifi P c, hexec, hpush, hc.name, hc.kind, hc.ack, ?dt, ?wifi, hgps, hlbs, htailOff, htailLen, hc.login, hc.st,
    hc.al, hc.iccid⟩
  case dt =>
    simp only [extractWifi, ite_present, hdt]
    split_ifs
    · exact dateTimeGroup_at P 0
    · rfl
  case wifi =>
    split_ifs with h7
    · obtain ⟨hwifi, hshort⟩ := extractWifi_of_count h7 c
      rw [hwifi, hshort, wifiCount_toNat]
      refine ⟨rfl, rfl, rfl, by simp, fun k ap hk => ?_, rfl⟩
      rw [accessPoints_getElem? hk]
      exact ⟨accessPoint_mac P k, rfl⟩
    · obtain ⟨hwifi, hshort⟩ := extractWifi_of_no_count (Nat.not_le.mp h7) c
      exact ⟨hwifi.trans hc.wifi, hshort⟩

/-! ICCID (R156). -/

/-- Digit `2k` is the low nibble of byte `k`, digit `2k + 1` its high nibble. -/
theorem bcdDigits_getElem? (bytes : List Byte) (k : Nat) :
    (bcdDigits bytes)[2 * k]? = bytes[k]?.map lowNibble ∧ (bcdDigits bytes)[2 * k + 1]? = bytes[k]?.map highNibble := by
  induction bytes generalizing k with
  | nil => exact ⟨rfl, rfl⟩
  | cons b bytes ih =>
    cases k with
    | zero => exact ⟨rfl, rfl⟩
    | succ k => exact ih k

theorem getElem?_take_eq_byteAt {P : List Byte} {n k : Nat} (hn : n ≤ P.length) (hk : k < n) : (P.take n)[k]? = some (byteAt P k) := by
  rw [List.getElem?_take_of_lt hk, byteAt, List.getD_eq_getElem?_getD, List.getElem?_eq_getElem (hk.trans_le hn), Option.getD_some]

theorem extractIccid_of_present {P : List Byte} (h : 10 ≤ P.length) (r : Record) :
    (extractIccid P r).iccid = { vIccid := true, dig := bcdDigits (P.take 10)
                                 iccidDec := (bcdDigits (P.take 10)).all fun d => d.toNat ≤ 9 } :=
  if_pos ((present_iff P 0 10).mpr h)

theorem extractIccid_of_absent {P : List Byte} (h : ¬ 10 ≤ P.length) (r : Record) : (extractIccid P r).iccid = r.iccid :=
  if_neg ((present_iff P 0 10).not.mpr h)

/-- Settles O40: the digits are those of `bcdDigits`; without them the group is the all-zero one, whose DIG is twenty zeros. -/
theorem iccidFields : Obligations.IccidFields := by
  intro P serial checksum i s hi hw ha
  have hrow : RowOfCode 0x69 P i := .of_either hi
  obtain ⟨t, c, hexec, hpush, hc, -⟩ := hrow.pushes hw ha
  refine ⟨t, extractIccid P c, hexec, hpush, hc.name, hc.kind, hc.ack, not_present P 0 10, ?length, ?digits, hc.position, hc.login,
    hc.st, hc.al, hc.wifi⟩
  case length =>
    by_cases h10 : 10 ≤ P.length
    · rw [extractIccid_of_present h10, bcdDigits_length, List.length_take_of_le h10]
    · rw [extractIccid_of_absent h10, hc.iccid]
      rfl
  case digits =>
    split_ifs with h10
    · rw [extractIccid_of_present h10]
      refine ⟨rfl, fun k hk => ?_, by simp only [List.all_eq_true, decide_eq_true_eq]⟩
      obtain ⟨hlow, hhigh⟩ := bcdDigits_getElem? (P.take 10) k
      rw [hlow, hhigh, getElem?_take_eq_byteAt h10 hk]
      exact ⟨congrArg some (lowNibble_toNat _), congrArg some (highNibble_toNat _)⟩
    · exact (extractIccid_of_absent h10 c).trans hc.iccid

/-! OPAQUE (R142, R158 to R163). -/

/-- The listed codes of kind OPAQUE (R68). -/
def opaqueCodes : List Byte := [0x03, 0x70, 0x8A, 0x94, 0x98, 0x99]

theorem opaqueRows_eq (p : Byte) (P : List Byte) (serial checksum : Half) :
    opaqueRows p P serial checksum
      = opaqueCodes.flatMap (codeRows inTextSet P serial checksum)
        ++ [(.unknown p P serial checksum, 0, false), (.unknownX p P, 0, false)] :=
  rfl

theorem kindOf_opaque : ∀ proto ∈ opaqueCodes, kindOf proto = 0 ∧ inAckSet proto = false := by decide

/-- A code outside R68 has the rows of a listed one: its selectors give UNKNOWN, and the tables their default. -/
theorem codeRows_of_unlisted {p : Byte} (h : knownCodes.contains p = false) (P : List Byte) (serial checksum : Half) :
    codeRows inTextSet P serial checksum p = [(.unknown p P serial checksum, 0, false), (.unknownX p P, 0, false)] := by
  rw [codeRows, selectStd_unknown p P serial checksum h, selectExt_unknown p P h, nameOf_of_unlisted h, inTextSet_of_unlisted h]

/-- Every well-formed row of the list is a row of a code of kind OPAQUE. -/
theorem of_mem_opaqueRows {p : Byte} {P : List Byte} {serial checksum : Half} {row : Instr × BitVec 4 × Bool}
    (h : row ∈ opaqueRows p P serial checksum) (hw : wellFormed row.1 = true) :
    ∃ proto, RowOfCode proto P row.1 ∧ row.2 = (nameOf proto, inTextSet proto) ∧ kindOf proto = 0 ∧ inAckSet proto = false := by
  rw [opaqueRows_eq] at h
  obtain hlisted | hunknown := List.mem_append.mp h
  · obtain ⟨proto, hproto, hrow⟩ := List.mem_flatMap.mp hlisted
    obtain ⟨hcode, hcolumns⟩ := of_mem_codeRows hrow
    exact ⟨proto, hcode, hcolumns, kindOf_opaque proto hproto⟩
  · have hp : knownCodes.contains p = false := by
      obtain rfl | rfl := List.mem_pair.mp hunknown
      · exact unlisted_of_unknown hw rfl (.inl ⟨_, _, _, _, rfl⟩)
      · exact unlisted_of_unknown hw rfl (.inr ⟨_, _, rfl⟩)
    rw [← codeRows_of_unlisted hp] at hunknown
    obtain ⟨hcode, hcolumns⟩ := of_mem_codeRows hunknown
    exact ⟨p, hcode, hcolumns, kindOf_of_unlisted hp, inAckSet_of_unlisted hp⟩

/-- Every code with an extractor of its own has another kind (R68, R76). -/
theorem extractorOf_of_opaque {proto : Byte} (h : kindOf proto = 0) : extractorOf proto = extractOpaque := by
  have hne {p : Byte} (hp : kindOf p ≠ 0) : proto ≠ p := fun heq => hp (heq ▸ h)
  have hgps : proto ∉ gpsLbsCodes := fun hmem => absurd ((kindOf_gpsLbs proto hmem).symm.trans h) (by decide)
  rw [extractorOf, if_neg (hne (by decide))]
  refine (if_neg hgps).trans ?_
  rw [if_neg (hne (by decide)), if_neg (hne (by decide)), if_neg (hne (by decide)), if_neg (hne (by decide))]

/-- Settles O41: the record is the fresh one, which raises no event. -/
theorem opaqueFields : Obligations.OpaqueFields := by
  intro p P serial checksum s row hrow hw ha
  obtain ⟨proto, hcode, hcolumns, hkind, hack⟩ := of_mem_opaqueRows hrow hw
  obtain ⟨t, c, hexec, hpush, hc, hstatus⟩ := hcode.pushes hw ha
  obtain ⟨hdt, -⟩ := hc.position
  rw [extractorOf_of_opaque hkind, extractOpaque] at hpush hstatus
  rw [hcolumns]
  refine ⟨t, c, hexec, hpush, hc.name, hc.kind.trans hkind, hc.ack.trans hack, hc.short, hc.payload, fun hgood => ?_,
    hcode.rowOf_eq.trans (congrArg some hc.code.symm), hc.text, ?_, hc.position, hc.login, hc.st, hc.al, hc.wifi, hc.iccid⟩
  · rw [hstatus hgood, hc.short, hdt]
    simp
  · rw [hc.print]
    exact all_printable_iff P

end Sys2Proof.Machine
end

section
/-! The CRC as linear algebra over bits (43_crc R171 to R173, R180): one shift is linear and loses nothing. -/

namespace Sys2Proof.Machine

open Sys2Proof.Claims

/-! One shift. -/

theorem crcShift_eq_crcRepeat (r : Half) : crcShift r = crcRepeat r := by
  unfold crcShift crcRepeat
  cases r.getLsbD 0 <;> rfl

/-- A clear bit 0 leaves a plain shift. -/
theorem crcShift_of_bit0_clear {r : Half} (h : r.getLsbD 0 = false) : crcShift r = r >>> 1 := by
  rw [crcShift, h]

/-- A set bit 0 adds the polynomial. -/
theorem crcShift_of_bit0_set {r : Half} (h : r.getLsbD 0 = true) : crcShift r = (r >>> 1) ^^^ crcPoly := by
  rw [crcShift, h]

theorem crcShift_xor (a b : Half) : crcShift (a ^^^ b) = crcShift a ^^^ crcShift b := by
  have hbit : (a ^^^ b).getLsbD 0 = (a.getLsbD 0 ^^ b.getLsbD 0) := BitVec.getLsbD_xor
  cases ha : a.getLsbD 0 <;> cases hb : b.getLsbD 0 <;> rw [ha, hb] at hbit
  · rw [crcShift_of_bit0_clear hbit, crcShift_of_bit0_clear ha, crcShift_of_bit0_clear hb, BitVec.ushiftRight_xor_distrib]
  · rw [crcShift_of_bit0_set hbit, crcShift_of_bit0_clear ha, crcShift_of_bit0_set hb, BitVec.ushiftRight_xor_distrib,
      BitVec.xor_assoc]
  · rw [crcShift_of_bit0_set hbit, crcShift_of_bit0_set ha, crcShift_of_bit0_clear hb, BitVec.ushiftRight_xor_distrib]
    ac_rfl
  · rw [crcShift_of_bit0_clear hbit, crcShift_of_bit0_set ha, crcShift_of_bit0_set hb, BitVec.ushiftRight_xor_distrib]
    have hcancel : (a >>> 1) ^^^ (b >>> 1) = (a >>> 1) ^^^ (b >>> 1) ^^^ (crcPoly ^^^ crcPoly) := by
      rw [BitVec.xor_self, BitVec.xor_zero]
    rw [hcancel]
    ac_rfl

/-- The polynomial has bit 15, which a plain shift has cleared: no other register is shifted to zero. -/
theorem eq_zero_of_crcShift_eq_zero {r : Half} (h : crcShift r = 0) : r = 0 := by
  have hshift : (r >>> 1).toNat = r.toNat / 2 := by rw [BitVec.toNat_ushiftRight, Nat.shiftRight_eq_div_pow]
  have hr := r.isLt
  cases hbit : r.getLsbD 0 with
  | false =>
    rw [crcShift_of_bit0_clear hbit] at h
    rw [h] at hshift
    have hodd : r.toNat % 2 = 0 := by simpa [BitVec.getLsbD, Nat.testBit_zero] using hbit
    exact BitVec.eq_of_toNat_eq (by simp at hshift ⊢; omega)
  | true =>
    rw [crcShift_of_bit0_set hbit] at h
    have hpoly : r >>> 1 = crcPoly := BitVec.xor_eq_zero_iff.mp h
    rw [hpoly] at hshift
    have hvalue : crcPoly.toNat = 0x8408 := rfl
    omega

theorem crcShift_injective : Function.Injective crcShift := fun a b h =>
  BitVec.xor_eq_zero_iff.mp (eq_zero_of_crcShift_eq_zero (by rw [crcShift_xor, h]; exact BitVec.xor_self))

/-! Several shifts. -/

theorem crcShifts_eq_iterate (n : Nat) : crcShifts n = crcShift^[n] := by
  induction n with
  | zero => rfl
  | succ n ih =>
    funext r
    rw [crcShifts_succ, ih, Function.iterate_succ_apply]

theorem crcShifts_add (m n : Nat) (r : Half) : crcShifts m (crcShifts n r) = crcShifts (m + n) r := by
  rw [crcShifts_eq_iterate, crcShifts_eq_iterate, crcShifts_eq_iterate, Function.iterate_add_apply]

theorem crcShifts_xor (n : Nat) (a b : Half) : crcShifts n (a ^^^ b) = crcShifts n a ^^^ crcShifts n b := by
  induction n generalizing a b with
  | zero => rfl
  | succ n ih => rw [crcShifts_succ, crcShifts_succ, crcShifts_succ, crcShift_xor, ih]

theorem crcShifts_injective (n : Nat) : Function.Injective (crcShifts n) := by
  rw [crcShifts_eq_iterate]
  exact crcShift_injective.iterate n

/-- A register whose low bits are zero is shifted out of them without meeting the polynomial. -/
theorem crcShifts_of_low_clear (n : Nat) {r : Half} (h : ∀ k < n, r.getLsbD k = false) : crcShifts n r = r >>> n := by
  induction n generalizing r with
  | zero => exact (BitVec.ushiftRight_zero r).symm
  | succ n ih =>
    have hnext : ∀ k < n, (r >>> 1).getLsbD k = false := fun k hk => by
      rw [BitVec.getLsbD_ushiftRight]
      exact h _ (by omega)
    rw [crcShifts_succ, crcShift_of_bit0_clear (h 0 n.succ_pos), ih hnext, ← BitVec.shiftRight_add, Nat.add_comm]

/-! One byte. -/

theorem crcByte_eq_crcStep (r : Half) (b : Byte) : crcByte r b = crcStep r b := by
  rw [crcByte, crcStep, crcShifts_eq_iterate, funext crcShift_eq_crcRepeat]

/-- A byte in the low half of the register. -/
theorem byte_ushiftRight (b : Byte) : (b.setWidth 16) >>> 8 = 0#16 := by
  ext k hk
  simp

/-- A byte that enters above bit 7 is shifted down to the low half. -/
theorem crcShifts_byte_shiftLeft (b : Byte) : crcShifts 8 ((b.setWidth 16) <<< 8) = b.setWidth 16 := by
  rw [crcShifts_of_low_clear 8 fun k hk => by rw [BitVec.getLsbD_shiftLeft, decide_eq_true hk]; simp]
  have hb := b.isLt
  apply BitVec.eq_of_toNat_eq
  simp only [BitVec.toNat_ushiftRight, BitVec.toNat_shiftLeft, BitVec.toNat_setWidth, Nat.shiftLeft_eq, Nat.shiftRight_eq_div_pow]
  omega

theorem crcTableEntry_eq_crcShifts (i : Byte) : crcTableEntry i = crcShifts 8 (i.setWidth 16) :=
  congrArg (crcShifts 8) BitVec.xor_zero

/-- Eight shifts move the high byte down and take the low one from the table (R173). -/
theorem crcShifts_eight (r : Half) : crcShifts 8 r = (r >>> 8) ^^^ crcTableEntry (lo8 r) := by
  have hlow : ∀ k < 8, (r ^^^ (lo8 r).setWidth 16).getLsbD k = false := fun k hk => by
    have hk16 : k < 16 := by omega
    simp [lo8, hk, hk16]
  have hsplit : crcShifts 8 r ^^^ crcTableEntry (lo8 r) = r >>> 8 := by
    rw [crcTableEntry_eq_crcShifts]
    calc  crcShifts 8 r ^^^ crcShifts 8 ((lo8 r).setWidth 16) = crcShifts 8 (r ^^^ (lo8 r).setWidth 16) := (crcShifts_xor 8 _ _).symm
      _ = (r ^^^ (lo8 r).setWidth 16) >>> 8 := crcShifts_of_low_clear 8 hlow
      _ = r >>> 8 := by rw [BitVec.ushiftRight_xor_distrib, byte_ushiftRight]; exact BitVec.xor_zero
  rw [← hsplit, BitVec.xor_assoc, BitVec.xor_self]
  exact BitVec.xor_zero.symm

theorem crcByte_eq_table (r : Half) (b : Byte) : crcByte r b = (r >>> 8) ^^^ crcTableEntry (lo8 (r ^^^ b.setWidth 16)) := by
  rw [crcByte, crcShifts_eight, BitVec.ushiftRight_xor_distrib, byte_ushiftRight]
  exact congrArg (· ^^^ _) BitVec.xor_zero

theorem crcByte_injective_register (b : Byte) : Function.Injective (crcByte · b) := fun _ _ h =>
  (BitVec.xor_left_inj _).mp (crcShifts_injective 8 h)

theorem crcByte_injective_byte (r : Half) : Function.Injective (crcByte r) := fun b b' h => by
  have hbytes : b.setWidth 16 = b'.setWidth 16 := (BitVec.xor_right_inj _).mp (crcShifts_injective 8 h)
  simpa using congrArg (BitVec.setWidth 8) hbytes

/-! Byte sequences. -/

theorem crcBytes_append (r : Half) (S S' : List Byte) : crcBytes r (S ++ S') = crcBytes (crcBytes r S) S' := List.foldl_append

theorem crcBytes_injective (S : List Byte) : Function.Injective (crcBytes · S) := by
  induction S with
  | nil => exact fun _ _ h => h
  | cons b S ih => exact fun _ _ h => crcByte_injective_register b (ih h)

/-- A register is its low byte and its high byte above. -/
theorem lo8_xor_hi8 (w : Half) : (lo8 w).setWidth 16 ^^^ ((hi8 w).setWidth 16 <<< 8) = w := by
  ext k hk
  by_cases hlow : k < 8
  · simp [lo8, hlow, BitVec.getLsbD_eq_getElem hk]
  · have hhigh : k - 8 < 8 := by omega
    have hsum : 8 + (k - 8) = k := by omega
    simp [lo8, hi8, hlow, hhigh, hsum, BitVec.getLsbD_eq_getElem hk]

/-- Two bytes enter as sixteen bits, the first of them low. -/
theorem crcBytes_lo8_hi8 (r w : Half) : crcBytes r [lo8 w, hi8 w] = crcShifts 16 (r ^^^ w) := by
  calc crcBytes r [lo8 w, hi8 w]
      = crcShifts 8 (crcShifts 8 (r ^^^ (lo8 w).setWidth 16) ^^^ crcShifts 8 ((hi8 w).setWidth 16 <<< 8)) := by
        rw [crcShifts_byte_shiftLeft]; rfl
    _ = crcShifts 16 (r ^^^ w) := by rw [← crcShifts_xor, crcShifts_add, BitVec.xor_assoc, lo8_xor_hi8]

/-- The register after a message and its CRC (R180 (d)): it does not depend on the message. -/
theorem crcBytes_with_crc (S : List Byte) : crcBytes crcInit (S ++ [lo8 (crc16 S), hi8 (crc16 S)]) = crcShifts 16 0xFFFF := by
  rw [crcBytes_append, crcBytes_lo8_hi8, crc16, ← BitVec.xor_assoc, BitVec.xor_self]
  exact congrArg (crcShifts 16) BitVec.zero_xor

/-! The table (R173). -/

theorem crcTable_eq_map : crcTable = (List.range 256).map fun k => crcTableEntry (BitVec.ofNat 8 k) := by
  decide +kernel

theorem crcTable_getD (k : Byte) : crcTable.getD k.toNat 0 = crcTableEntry k := by
  rw [crcTable_eq_map, List.getD_eq_getElem?_getD, List.getElem?_map, List.getElem?_range k.isLt]
  exact congrArg crcTableEntry (BitVec.ofNat_toNat 8 k)

theorem crcByteTable_eq_crcByte (r : Half) (b : Byte) : crcByteTable r b = crcByte r b := by
  rw [crcByteTable, crcTable_getD, crcByte_eq_table]
  rfl

/-- Settles O44: both steps are eight repetitions of one shift; the printed values are evaluated. -/
theorem crcByBits : Obligations.CrcByBits :=
  ⟨crcByte_eq_crcStep, fun S => by rw [crc16, crcBytes, funext₂ crcByte_eq_crcStep, crcInit], rfl, rfl, rfl, rfl, rfl, rfl⟩

/-- Settles O45: the table lists eight shifts of every byte, and eight shifts of a register are linear in its two bytes. -/
theorem crcTableForm : Obligations.CrcTableForm := by
  refine ⟨?_, fun k => ?_, fun r b => ⟨?_, ?_⟩⟩
  · rw [crcTable_eq_map, List.length_map, List.length_range]
  · rw [crcTable_getD, crcTableEntry, crcByte_eq_crcStep]
  · rw [crcTable_getD, ← crcByte_eq_crcStep]
    exact crcByte_eq_table r b
  · rw [crcByteTable_eq_crcByte, crcByte_eq_crcStep]

/-- Settles O46: the residue by the two bytes that cancel the register, the corrupted byte by the injectivity of every step. -/
theorem crcProperties : Obligations.CrcProperties := by
  refine ⟨crcBytes_append, fun S => ?_, fun S S' b b' hne h => hne ?_⟩
  · rw [crc16, crcBytes_with_crc]
    rfl
  · have hregister : crcBytes crcInit (S ++ b :: S') = crcBytes crcInit (S ++ b' :: S') := (BitVec.xor_left_inj _).mp h
    rw [crcBytes_append, crcBytes_append] at hregister
    exact crcByte_injective_byte _ (crcBytes_injective S' hregister)

end Sys2Proof.Machine
end

section
/-! The direct CRC port (43_crc R176 to R179): CRC_REG is a register of its own, which no beat reads or writes. -/

namespace Sys2Proof.Machine

open Sys2Proof.Claims

/-- The state with another value in CRC_REG. -/
def withCrcReg (c : Half) (s : State) : State := { s with crcReg := c }

/-! What a beat does beside CRC_REG. -/

theorem raiseEvent_withCrcReg (e : Event) (o : Word) (c : Half) (s : State) :
    raiseEvent e o (withCrcReg c s) = withCrcReg c (raiseEvent e o s) := rfl

theorem recordEvents_withCrcReg (r : Record) (c : Half) (s : State) :
    recordEvents r (withCrcReg c s) = withCrcReg c (recordEvents r s) := by
  unfold recordEvents
  split_ifs <;> rfl

theorem deliver_withCrcReg (r : Record) (c : Half) (s : State) : deliver r (withCrcReg c s) = withCrcReg c (deliver r s) := by
  rw [deliver_spec, deliver_spec, recordEvents_withCrcReg]
  rfl

theorem decodeStep_withCrcReg (extract : Record → Record) (common : Record) (c : Half) (s : State) :
    decodeStep extract common (withCrcReg c s) = withCrcReg c (decodeStep extract common s) := by
  obtain ⟨hbad, he, h⟩ | ⟨hbad, he, h⟩ | ⟨hgood, h⟩ := decodeStep_cases extract common s
  · rw [h, decodeStep, if_pos hbad]
    exact if_pos he
  · rw [h, decodeStep, if_pos hbad, raiseEvent_withCrcReg, deliver_withCrcReg]
    exact if_neg (Bool.eq_false_iff.mp he)
  · rw [h, decodeStep, if_neg (Bool.eq_false_iff.mp hgood), deliver_withCrcReg]

theorem runFrame_withCrcReg {s : State} {i : Instr} {rest : List Byte} (h : decodeFrame s.acc = .ok (i, rest)) (c : Half) :
    runFrame i (withCrcReg c s) = withCrcReg c (runFrame i s) := by
  obtain ⟨p, payload, serial, checksum, rfl, -, -⟩ | ⟨p, payload, rfl, -, -⟩ := decodeFrame_ok _ _ _ h
  · rw [runFrame_selectStd, runFrame_selectStd, yieldStd, yieldStd]
    exact decodeStep_withCrcReg _ _ c (takeFrame (payload.length + 10) s)
  · rw [runFrame_selectExt, runFrame_selectExt, yieldExt, yieldExt]
    exact decodeStep_withCrcReg _ _ c (takeFrame (payload.length + 7) s)

theorem resync_withCrcReg (k : Nat) (c : Half) (s : State) : resync k (withCrcReg c s) = withCrcReg c (resync k s) := by
  unfold resync
  split_ifs <;> rfl

/-- The pass that ends alike with another state. -/
def Pass.map (f : State → State) : Pass → Pass
  | .stop s => .stop (f s)
  | .again s => .again (f s)

theorem candidate_withCrcReg (c : Half) (s : State) : candidate (withCrcReg c s) = (candidate s).map (withCrcReg c) := by
  have hacc : (withCrcReg c s).acc = s.acc := rfl
  unfold candidate
  rw [hacc]
  cases h : decodeFrame s.acc with
  | ok decoded => exact congrArg Pass.again (runFrame_withCrcReg h c)
  | error why => cases why <;> rfl

theorem iteration_withCrcReg (c : Half) (s : State) : iteration (withCrcReg c s) = (iteration s).map (withCrcReg c) := by
  have hacc : (withCrcReg c s).acc = s.acc := rfl
  unfold iteration
  rw [hacc]
  split_ifs
  · rfl
  · cases markerIndex s.acc with
    | none => rfl
    | some k => exact (congrArg candidate (resync_withCrcReg k c s)).trans (candidate_withCrcReg c _)

theorem drainLoop_withCrcReg (n : Nat) (c : Half) (s : State) :
    drainLoop n (withCrcReg c s) = withCrcReg c (drainLoop n s) := by
  induction n generalizing s with
  | zero => rfl
  | succ n ih =>
    rw [drainLoop, drainLoop, iteration_withCrcReg]
    cases iteration s with
    | stop t => rfl
    | again t => exact ih t

theorem rx_withCrcReg (b : Byte) (last : Bool) (c : Half) (s : State) :
    rx b last (withCrcReg c s) = withCrcReg c (rx b last s) := by
  have hacc : (withCrcReg c s).acc = s.acc := rfl
  have hhalted : (withCrcReg c s).halted = s.halted := rfl
  unfold rx
  rw [hacc, hhalted]
  split_ifs
  · rfl
  · rfl
  · exact drainLoop_withCrcReg _ c (append b s)
  · rfl

/-! Sequences of operations. -/

theorem stateAfter_cmdCrcInit (s : State) : stateAfter .cmdCrcInit s = withCrcReg crcInit s := rfl

theorem stateAfter_crcData_withCrcReg (b : Byte) (c : Half) (s : State) :
    stateAfter (.crcData b) (withCrcReg c s) = withCrcReg (crcByte c b) s := rfl

theorem stateAfter_rx_withCrcReg (b : Byte) (last : Bool) (c : Half) (s : State) :
    stateAfter (.rx b last) (withCrcReg c s) = withCrcReg c (stateAfter (.rx b last) s) := rx_withCrcReg b last c s

theorem execAll_cons (i : Instr) (ops : List Instr) (s : State) : execAll (i :: ops) s = execAll ops (stateAfter i s) := by
  rw [execAll_eq_runFrames, execAll_eq_runFrames, runFrames]

theorem execAll_append {ops : List Instr} {s u : State} (h : execAll ops s = some u) (more : List Instr) :
    execAll (ops ++ more) s = execAll more u := by
  rw [execAll_eq_runFrames] at h ⊢
  cases h
  rw [runFrames_append, execAll_eq_runFrames]

/-- CRC.DATA operations and beats in any order: the beats do to the rest of the state what they do alone, the bytes fed to CRC_REG
what they do alone (R177). -/
theorem execAll_interleaved (ops : List Instr) (c : Half) {s u : State} (hops : ∀ i ∈ ops, isCrcData i = true ∨ isBeat i = true)
    (h : execAll (ops.filter isBeat) s = some u) :
    execAll ops (withCrcReg c s) = some (withCrcReg (crcBytes c (crcDataBytes ops)) u) := by
  induction ops generalizing c s with
  | nil =>
    cases h
    rfl
  | cons i ops ih =>
    obtain ⟨hi, hrest⟩ := List.forall_mem_cons.mp hops
    rw [execAll_cons]
    cases i with
    | rx b last =>
      rw [List.filter_cons_of_pos rfl, execAll_cons] at h
      rw [stateAfter_rx_withCrcReg]
      exact ih c hrest h
    | crcData b =>
      rw [List.filter_cons_of_neg Bool.false_ne_true] at h
      rw [stateAfter_crcData_withCrcReg]
      exact ih (crcByte c b) (s := s) hrest h
    | _ => simp [isCrcData, isBeat] at hi

theorem crcBytes_crcInit (S : List Byte) : crcBytes crcInit S = crc16 S ^^^ 0xFFFF := by
  rw [crc16, BitVec.xor_assoc, BitVec.xor_self]
  exact BitVec.xor_zero.symm

/-- CRC.VALUE returns the CRC of what has been fed since CRC_INIT (R177, R179). -/
theorem crcValueWord_withCrcReg (S : List Byte) (u : State) :
    crcValueWord (withCrcReg (crcBytes crcInit S) u) = (crc16 S).setWidth 32 := rfl

/-- Settles O47: CRC_INIT writes CRC_REG only, the sequence acts on it and on the rest of the state apart, and CRC.VALUE reads it. -/
theorem directPortComputesTheCrc : Obligations.DirectPortComputesTheCrc := by
  intro ops s hops
  have hbeats := execAll_eq_runFrames (ops.filter isBeat) s
  refine ⟨_, hbeats, ?_⟩
  calc execAll (.cmdCrcInit :: (ops ++ [.crcValue])) s
      = execAll (ops ++ [.crcValue]) (withCrcReg crcInit s) := by rw [execAll_cons, stateAfter_cmdCrcInit]
    _ = execAll [.crcValue] (withCrcReg (crcBytes crcInit (crcDataBytes ops)) _) :=
        execAll_append (execAll_interleaved ops crcInit hops hbeats) [.crcValue]
    _ = some (answer (.word (crcValueWord (withCrcReg (crcBytes crcInit (crcDataBytes ops)) _)))
          (withCrcReg (crcBytes crcInit (crcDataBytes ops)) _)) := execAll_cons .crcValue [] _
    _ = _ := by
        rw [crcValueWord_withCrcReg, crcBytes_crcInit]
        rfl

/-- A write at 0x2C feeds bits 7:0 (R178). -/
theorem csrStore_crcData (v : Word) (s : State) : csrStore 0x2C v s = crcFeed (v.extractLsb' 0 8) s := rfl

/-- A read at 0x30 is CRC_VALUE (R179). -/
theorem csrValue_crcValue (s : State) : csrValue 0x30 s = crcValueWord s := rfl

/-- Settles O48: the step by bits, and the CSR accesses as the two operations. -/
theorem crcDataAndCrcValue : Obligations.CrcDataAndCrcValue := by
  refine fun b s => ⟨?_, fun ignored => congrArg Host.Outcome.next ?_, rfl,
    congrArg (fun w => Host.Outcome.next (answer (.word w) s)) (csrValue_crcValue s)⟩
  · rw [← crcByte_eq_crcStep]
    rfl
  · rw [csrStore_crcData, crcDataWord_data]

end Sys2Proof.Machine
end

section
/-! The effect of a frame row at the head of ACC (40_framing R101; 43_crc R175; 44_ack R187). -/

namespace Sys2Proof.Machine

open Sys2Proof.Claims

/-- Executing a frame row is one decode step on the state that its bytes have left, from a record with the frame's common fields. -/
theorem frame_decodeStep {i : Instr} {F : List Byte} (hF : IsFrame i F) (s : State) :
    ∃ extract common, exec i s = .next (decodeStep extract common (takeFrame F.length s))
      ∧ CommonFields F s.cntFrames s.head common := by
  obtain ⟨proto, payload, serial, checksum, rfl, hp, rfl⟩ | ⟨proto, payload, rfl, hp, rfl⟩ := frame_cases i F hF.1 hF.2
  · refine ⟨extractorOf proto payload, _, ?_, stdRecord_commonFields proto serial checksum s.cntFrames s.head hp⟩
    rw [exec_selectStd, runFrame_selectStd, stdFrame_length, yieldStd]
  · refine ⟨extractorOf proto payload, _, ?_, extRecord_commonFields proto s.cntFrames s.head hp⟩
    rw [exec_selectExt, runFrame_selectExt, extFrame_length, yieldExt]

/-- The event registers by the validator's verdict (R175): one test decides all three. -/
theorem decodeStep_events_ite (extract : Record → Record) (common : Record) (s : State) :
    if crcMismatch common then
      (decodeStep extract common s).lastErr = 5 ∧ (decodeStep extract common s).lastOff = common.offset
        ∧ (decodeStep extract common s).cntCrcErr = s.cntCrcErr + 1
    else
      (decodeStep extract common s).lastErr = s.lastErr ∧ (decodeStep extract common s).lastOff = s.lastOff
        ∧ (decodeStep extract common s).cntCrcErr = s.cntCrcErr := by
  obtain ⟨herr, hoff, hcnt⟩ := decodeStep_events extract common s
  split_ifs with h
  · rw [herr, hoff, hcnt, if_pos h, if_pos h, if_pos h]
    exact ⟨rfl, rfl, rfl⟩
  · rw [herr, hoff, hcnt, if_neg h, if_neg h, if_neg h]
    exact ⟨rfl, rfl, rfl⟩

/-- A decode that is not discarded queues the record, and its acknowledgement when it is flagged (R110, R187). -/
theorem decodeStep_queues_of_kept (extract : Record → Record) (common : Record) {s : State}
    (h : ¬(crcMismatch common = true ∧ s.crcEnforce = true)) :
    (decodeStep extract common s).recq = s.recq ++ [extract common]
      ∧ (decodeStep extract common s).ackq
          = if (extract common).ack && s.ackEn then s.ackq ++ [buildAck (extract common).serial (extract common).proto]
            else s.ackq := by
  obtain ⟨hbad, he, -⟩ | ⟨-, hqueues⟩ := decodeStep_queues extract common s
  · exact absurd ⟨hbad, he⟩ h
  · exact hqueues

theorem decodeStep_queues_of_discarded (extract : Record → Record) {common : Record} {s : State}
    (h : crcMismatch common = true ∧ s.crcEnforce = true) :
    (decodeStep extract common s).recq = s.recq ∧ (decodeStep extract common s).ackq = s.ackq := by
  obtain ⟨hbad, he⟩ := h
  rw [decodeStep, if_pos hbad, if_pos he]
  exact ⟨raiseEvent_recq _ _ _, raiseEvent_ackq _ _ _⟩

/-- Settles O33: the decode step of `frame_decodeStep`, whose verdict is the one that the frame's bytes give. -/
theorem frameInstructionEffect : Obligations.FrameInstructionEffect := by
  intro i F rest s hF hacc
  obtain ⟨extract, common, hexec, hfields⟩ := frame_decodeStep hF s
  have hoffset : common.offset = s.head := by
    obtain ⟨-, -, -, hoffset, -⟩ := hfields
    exact hoffset
  obtain ⟨htacc, hhead, hhalted, henforce, hackEn, hframes, hdropped, hframErr, hcrcReg, hinbox, hresult⟩ :=
    decodeStep_frame extract common (takeFrame F.length s)
  have hevents := decodeStep_events_ite extract common (takeFrame F.length s)
  have hstatus := decodeStep_status extract common (takeFrame F.length s)
  have hverdict := crcMismatch_eq_badChecksum hfields
  rw [hverdict, hoffset] at hevents
  rw [hverdict] at hstatus
  refine ⟨_, hexec, ?acc, fun j => ?bytes, hhead, hframes, hhalted, henforce, hackEn, hdropped, hframErr, hcrcReg, hinbox, hresult,
    hevents, ?pushes⟩
  case acc => rw [htacc, takeFrame_acc, hacc, List.drop_left]
  case bytes => rw [htacc, takeFrame_acc, memByte_drop]
  case pushes =>
    by_cases hdiscarded : badChecksum F = true ∧ s.crcEnforce = true
    · rw [if_pos hdiscarded]
      obtain ⟨hrecq, hackq⟩ := decodeStep_queues_of_discarded (s := takeFrame F.length s) extract (hverdict ▸ hdiscarded)
      exact ⟨hrecq, hackq, hstatus.trans (if_pos hdiscarded)⟩
    · rw [if_neg hdiscarded]
      obtain ⟨hrecq, hackq⟩ := decodeStep_queues_of_kept (s := takeFrame F.length s) extract common (hverdict ▸ hdiscarded)
      exact ⟨extract common, hrecq, hackq, hstatus.trans (if_neg hdiscarded)⟩

end Sys2Proof.Machine
end

section
/-! Acknowledgements (44_ack R185, R186, R188). -/

namespace Sys2Proof.Machine

open Sys2Proof.Claims

/-! The bytes (R185). -/

/-- The fixed length byte 5 is that of an empty payload, so the CRC of bytes 2 to 5 is the checksum of the STD frame (R61, R82, R186). -/
theorem buildAck_eq_stdFrame (serial : Half) (proto : Byte) :
    buildAck serial proto = stdFrame proto [] serial (crc16 (stdCovered proto [] serial)) := rfl

theorem proto_of_buildAck (serial : Half) (proto : Byte) : byteAt (buildAck serial proto) 3 = proto := rfl

theorem serial_of_buildAck (serial : Half) (proto : Byte) :
    be16 (byteAt (buildAck serial proto) 4) (byteAt (buildAck serial proto) 5) = serial := be16_hi_lo serial

theorem buildAck_injective {serial serial' : Half} {p p' : Byte} (h : buildAck serial p = buildAck serial' p') :
    serial = serial' ∧ p = p' := by
  constructor
  · rw [← serial_of_buildAck serial p, h, serial_of_buildAck]
  · rw [← proto_of_buildAck serial p, h, proto_of_buildAck]

/-- Settles O49: each two-byte field is a word's high and low byte. -/
theorem ackFrameLayout : Obligations.AckFrameLayout := fun serial p =>
  ⟨buildAck_length serial p, rfl, BE_hi8_lo8 serial, BE_hi8_lo8 (crc16 [0x05, p, hi8 serial, lo8 serial]), rfl⟩

/-! A frame received as one chunk (R90, R101, R110). -/

theorem isFrame_selectStd (proto : Byte) {payload : List Byte} (serial checksum : Half) (h : stdPayloadOk payload = true) :
    IsFrame (selectStd proto payload serial checksum) (stdFrame proto payload serial checksum) :=
  ⟨(wellFormed_selectStd ..).trans h, encode_selectStd ..⟩

/-- The chunk of one frame into an empty accumulator: the frame is executed, and the drain finds nothing more. -/
theorem feed_frame {s : State} {i : Instr} {F : List Byte} (hF : IsFrame i F) (hacc : s.acc = []) (hh : s.halted = false) :
    feed F s = stateAfter i (appendAll F s) := by
  have hne : F ≠ [] := List.ne_nil_of_length_pos (by have := seven_le_length hF; omega)
  have hfit : s.acc.length + F.length ≤ cfg.accCap := by
    rw [hacc, List.length_nil, Nat.zero_add]
    exact length_le_accCap hF
  have hhead : (appendAll F s).acc = F ++ [] := by rw [appendAll, hacc, List.nil_append, List.append_nil]
  rw [feed_eq_drain F s hne hh hfit, drain_of_frame_at_head hF hhead]
  exact drain_of_empty (stateAfter_acc hF hhead)

/-- A record without a mismatch is delivered, whatever CRC_ENFORCE says (R175). -/
theorem decodeStep_of_match (extract : Record → Record) {common : Record} (s : State) (h : crcMismatch common = false) :
    decodeStep extract common s = deliver (extract common) s := by
  rw [decodeStep, h, if_neg Bool.false_ne_true]

section

variable {proto : Byte} {payload : List Byte} {serial checksum : Half} {s : State}

/-- An STD frame with the matching checksum is delivered under both policies, with its own operands in the record (R174, R175). -/
theorem stateAfter_of_matching_checksum (h : stdPayloadOk payload = true)
    (hmatch : crc16 (stdCovered proto payload serial) = checksum) :
    ∃ r, stateAfter (selectStd proto payload serial checksum) s = deliver r (takeFrame (payload.length + 10) s)
      ∧ r.serial = serial ∧ r.proto = proto ∧ r.crcOk = true ∧ r.payLen = BitVec.ofNat 16 payload.length := by
  have hok : (stdRecord proto payload serial checksum s.cntFrames s.head).crcOk = true := beq_iff_eq.mpr hmatch
  obtain ⟨x, hx⟩ := extractorOf_common proto payload (stdRecord proto payload serial checksum s.cntFrames s.head)
  refine ⟨extractorOf proto payload (stdRecord proto payload serial checksum s.cntFrames s.head), ?yield, ?fields⟩
  case yield =>
    rw [stateAfter_of_isFrame (isFrame_selectStd proto serial checksum h), runFrame_selectStd, yieldStd, decodeStep_of_match]
    rw [crcMismatch, hok, Bool.not_true, Bool.and_false]
  case fields =>
    rw [hx]
    exact ⟨rfl, rfl, hok, rfl⟩

/-- The block accepts an STD frame with the matching checksum: one record with the frame's operands, and nothing left over. -/
theorem feed_of_matching_checksum (h : stdPayloadOk payload = true) (hmatch : crc16 (stdCovered proto payload serial) = checksum)
    (hacc : s.acc = []) (hh : s.halted = false) :
    ∃ r, (feed (stdFrame proto payload serial checksum) s).recq = s.recq ++ [r]
      ∧ (feed (stdFrame proto payload serial checksum) s).acc = []
      ∧ (feed (stdFrame proto payload serial checksum) s).cntFrames = s.cntFrames + 1
      ∧ r.serial = serial ∧ r.proto = proto ∧ r.crcOk = true ∧ r.payLen = BitVec.ofNat 16 payload.length := by
  have hF := isFrame_selectStd proto serial checksum h
  obtain ⟨hleft, -, -, hframes, -⟩ := stateAfter_frame_fields hF (appendAll (stdFrame proto payload serial checksum) s)
  obtain ⟨r, hstate, hfields⟩ :=
    stateAfter_of_matching_checksum (s := appendAll (stdFrame proto payload serial checksum) s) h hmatch
  rw [feed_frame hF hacc hh]
  refine ⟨r, ?pushed, ?left, hframes, hfields⟩
  case pushed =>
    rw [hstate, deliver_spec]
    rfl
  case left => rw [hleft, appendAll, hacc, List.nil_append, List.drop_length]

end

/-- Settles O50: an acknowledgement is an STD frame with an empty payload and the matching checksum, and its operands stand in it. -/
theorem ackIsAnAcceptedFrame : Obligations.AckIsAnAcceptedFrame := by
  refine ⟨fun serial p => ⟨buildAck_length serial p, buildAck_eq_stdFrame serial p, ?_⟩,
    fun _ _ _ _ => buildAck_injective, rfl, rfl, rfl, rfl, rfl, rfl⟩
  rw [buildAck_eq_stdFrame]
  exact feed_of_matching_checksum (s := State.reset) (by decide) rfl rfl rfl

/-! The request (R188). -/

/-- A write at 0x34 requests the acknowledgement of bits 23:16 and 15:0. -/
theorem csrStore_ackReq (v : Word) (s : State) :
    csrStore 0x34 v s = ackRequest (v.extractLsb' 16 8) (v.extractLsb' 0 16) s := rfl

/-- Settles O51: the request is the push, and the CSR write is the request of the word's fields. -/
theorem ackOnRequest : Obligations.AckOnRequest := by
  refine fun ignored p serial s => ⟨rfl, congrArg Host.Outcome.next ?_⟩
  rw [csrStore_ackReq, ackReqWord_proto, ackReqWord_serial]

end Sys2Proof.Machine
end

section
/-! Host operations (45_host_ops R195 to R203; 70_reset_and_hazards R240). -/

namespace Sys2Proof.Machine

/-! Reset and the commands (R197 to R201, R240). -/

/-- Resetting twice is resetting once: the second reset meets the host's own two fields only (R240; log 1, log 2). -/
theorem resetBlock_resetBlock (s : State) : resetBlock (resetBlock s) = resetBlock s := rfl

/-- Settles O57: both operations are `resetBlock`, whose fields are the reset values. -/
theorem resetTransition : Obligations.ResetTransition := fun s =>
  ⟨rfl, resetBlock s, exec_eq_next .hreset s, resetBlock_acc s, resetBlock_head s, resetBlock_halted s, resetBlock_crcEnforce s,
    resetBlock_ackEn s, resetBlock_status s, resetBlock_lastErr s, resetBlock_lastOff s, resetBlock_cntFrames s,
    resetBlock_cntDropped s, resetBlock_cntFramErr s, resetBlock_cntCrcErr s, resetBlock_crcReg s, resetBlock_recq s,
    resetBlock_ackq s, congrArg Host.Outcome.next (resetBlock_resetBlock s)⟩

theorem popRec_eq_drop (s : State) : popRec s = { s with recq := s.recq.drop 1 } := by
  rw [popRec, List.drop_one]

theorem popAck_eq_drop (s : State) : popAck s = { s with ackq := s.ackq.drop 1 } := by
  rw [popAck, List.drop_one]

theorem popRec_of_empty {s : State} (h : s.recq = []) : popRec s = s := by
  cases s
  cases h
  rfl

theorem popAck_of_empty {s : State} (h : s.ackq = []) : popAck s = s := by
  cases s
  cases h
  rfl

/-- Settles O56: FLUSH and CRC_INIT are their definitions, a pop drops the head. -/
theorem commands : Obligations.Commands := fun s =>
  ⟨rfl, rfl, congrArg Host.Outcome.next (popRec_eq_drop s), congrArg Host.Outcome.next (popAck_eq_drop s),
    fun h => congrArg Host.Outcome.next (popRec_of_empty h), fun h => congrArg Host.Outcome.next (popAck_of_empty h)⟩

/-! The words of CTRL, STATUS and QSTAT, bit by bit (R20, R22, R23). -/

/-- CTRL and QSTAT hold two flags in bits 1 and 0. -/
theorem getLsbD_twoFlags (high low : Bool) :
    (0#30 ++ BitVec.ofBool high ++ BitVec.ofBool low).getLsbD 0 = low
    ∧ (0#30 ++ BitVec.ofBool high ++ BitVec.ofBool low).getLsbD 1 = high
    ∧ ∀ k, 2 ≤ k → (0#30 ++ BitVec.ofBool high ++ BitVec.ofBool low).getLsbD k = false := by
  refine ⟨?bit0, ?bit1, fun k hk => ?rest⟩
  case bit0 => cases low <;> exact getLsbD_append_low _ _ 0 Nat.one_pos
  case bit1 =>
    rw [getLsbD_append_high _ (BitVec.ofBool low) 0, getLsbD_append_low _ _ 0 Nat.one_pos]
    cases high <;> rfl
  case rest =>
    obtain ⟨j, rfl⟩ : ∃ j, k = 1 + (1 + j) := ⟨k - 2, by omega⟩
    rw [getLsbD_append_high, getLsbD_append_high]
    exact BitVec.getLsbD_zero

theorem ctrlWord_bits (s : State) :
    (ctrlWord s).getLsbD 0 = s.crcEnforce ∧ (ctrlWord s).getLsbD 1 = s.ackEn ∧ ∀ k, 2 ≤ k → (ctrlWord s).getLsbD k = false :=
  getLsbD_twoFlags s.ackEn s.crcEnforce

theorem qstatWord_bits (s : State) :
    (qstatWord s).getLsbD 0 = !s.recq.isEmpty ∧ (qstatWord s).getLsbD 1 = !s.ackq.isEmpty
    ∧ ∀ k, 2 ≤ k → (qstatWord s).getLsbD k = false :=
  getLsbD_twoFlags (!s.ackq.isEmpty) (!s.recq.isEmpty)

/-- REC_AVAIL (R20). -/
theorem qstatWord_recAvail (s : State) : (qstatWord s).getLsbD 0 = true ↔ s.recq ≠ [] := by
  obtain ⟨hrec, -, -⟩ := qstatWord_bits s
  rw [hrec, Bool.not_eq_true', List.isEmpty_eq_false_iff]

/-- ACK_AVAIL (R20). -/
theorem qstatWord_ackAvail (s : State) : (qstatWord s).getLsbD 1 = true ↔ s.ackq ≠ [] := by
  obtain ⟨-, hack, -⟩ := qstatWord_bits s
  rw [hack, Bool.not_eq_true', List.isEmpty_eq_false_iff]

theorem statusWord_flags (s : State) {k : Nat} (hk : k < 9) : (statusWord s).getLsbD k = s.status.getLsbD k :=
  getLsbD_append_low _ _ k hk

theorem statusWord_reserved (s : State) {k : Nat} (hlow : 9 ≤ k) (hhigh : k < 31) : (statusWord s).getLsbD k = false := by
  obtain ⟨j, rfl⟩ := Nat.exists_eq_add_of_le hlow
  rw [statusWord, getLsbD_append_high, getLsbD_append_low _ _ j (by omega)]
  exact BitVec.getLsbD_zero

theorem statusWord_halted (s : State) : (statusWord s).getLsbD 31 = s.halted := by
  rw [statusWord, getLsbD_append_high _ s.status 22, getLsbD_append_high _ 0#22 0]
  cases s.halted <;> rfl

/-! The peeks (R202, R203). -/

theorem length_of_ackFrameOk {f : List Byte} (h : ackFrameOk f = true) : f.length = 10 := by
  rw [beq_iff_eq.mp h]
  exact buildAck_length _ _

theorem head?_eq_none_iff_of_avail {α : Type} {queue : List α} {avail : Bool} (h : avail = true ↔ queue ≠ []) :
    queue.head? = none ↔ avail = false := by
  rw [List.head?_eq_none_iff, ← Bool.not_eq_true, h, not_not]

/-- Settles O59: the QSTAT bits say which queue has a head, and every queued frame of a good state is the builder's. -/
theorem peeksReturnTheHeads : Obligations.PeeksReturnTheHeads := by
  refine fun s => ⟨rfl, rfl, head?_eq_none_iff_of_avail (qstatWord_recAvail s), head?_eq_none_iff_of_avail (qstatWord_ackAvail s),
    fun hok f hf => ?_⟩
  obtain ⟨-, -, -, -, hacks⟩ := (stateOk_iff s).mp hok
  exact length_of_ackFrameOk (hacks f (List.mem_of_head? hf))

/-! The CSR map, read (R195, R204). -/

/-- The offsets that hold nothing to read: the write-only ones, 0x40 and above, and those that are no multiple of 4 (R195, R204). -/
def ReadsZero (a : Byte) : Prop := a = 0x28 ∨ a = 0x2C ∨ a = 0x34 ∨ 0x40 ≤ a.toNat ∨ a.toNat % 4 ≠ 0

/-- Each of the thirteen readable offsets is a multiple of 4 below 0x40, and none is write-only. -/
theorem csrValue_of_readsZero {a : Byte} (h : ReadsZero a) (s : State) : csrValue a s = 0 := by
  unfold csrValue
  split
  case h_14 => rfl
  all_goals exact absurd h (by unfold ReadsZero; decide)

/-- ACC_LEVEL is wide enough for a full accumulator (R11, R20). -/
theorem csrValue_accLevel {s : State} (h : s.acc.length ≤ cfg.accCap) : (csrValue 0x0C s).toNat = s.acc.length := by
  have hcap : cfg.accCap = 2048 := rfl
  have hvalue : csrValue 0x0C s = (BitVec.ofNat 17 s.acc.length).setWidth 32 := rfl
  rw [hvalue, BitVec.toNat_setWidth, BitVec.toNat_ofNat]
  omega

/-- Settles O54: the value read at each offset of the map, and 0 at every other. -/
theorem csrReadMap : Obligations.CsrReadMap := by
  refine fun a s hcap => ⟨csrValue a s, exec_eq_next (.csrRead a) s, ?id, ?ctrl, ?status, ?accLevel, ?head, ?frames, ?dropped,
    ?framErr, ?crcErr, ?qstat, ?crcValue, ?lastErr, ?lastOff, fun h => csrValue_of_readsZero h s⟩
  case accLevel =>
    rintro rfl
    exact csrValue_accLevel hcap
  case ctrl =>
    rintro rfl
    exact ctrlWord_bits s
  case status =>
    rintro rfl
    exact ⟨fun _ => statusWord_flags s, fun _ => statusWord_reserved s, statusWord_halted s⟩
  case qstat =>
    rintro rfl
    obtain ⟨-, -, hreserved⟩ := qstatWord_bits s
    exact ⟨qstatWord_recAvail s, qstatWord_ackAvail s, hreserved⟩
  case crcValue =>
    rintro rfl
    exact BitVec.toNat_setWidth_of_le (by decide)
  case lastErr =>
    rintro rfl
    exact BitVec.toNat_setWidth_of_le (by decide)
  all_goals
    rintro rfl
    rfl

/-! The CSR map, written (R196, R204). -/

/-- Write one to clear: the nine flags, bit by bit (R23, R196). -/
theorem getLsbD_clearFlags (status : BitVec 9) (v : Word) {k : Nat} (hk : k < 9) :
    (clearFlags status v).getLsbD k = (status.getLsbD k && !v.getLsbD k) := by
  simp [clearFlags, hk]

/-- A CMD word that is none of the values 1 to 5 does nothing (R24, R204). -/
theorem command_of_reserved {v : Word}
    (h : v.extractLsb' 8 24 ≠ 0 ∨ v.extractLsb' 0 8 = 0 ∨ 6 ≤ (v.extractLsb' 0 8).toNat) (s : State) : command v s = s := by
  unfold command
  split
  case h_6 => rfl
  all_goals exact absurd h (by decide)

/-- Only CTRL, STATUS, CMD, CRC_DATA and ACKREQ take a write (R196, R204). -/
theorem csrStore_of_unwritable {a : Byte} (hctrl : a ≠ 0x04) (hstatus : a ≠ 0x08) (hcmd : a ≠ 0x28) (hcrc : a ≠ 0x2C)
    (hack : a ≠ 0x34) (v : Word) (s : State) : csrStore a v s = s := by
  unfold csrStore
  split
  case h_1 => exact absurd rfl hctrl
  case h_2 => exact absurd rfl hstatus
  case h_3 => exact absurd rfl hcmd
  case h_4 => exact absurd rfl hcrc
  case h_5 => exact absurd rfl hack
  case h_6 => rfl

/-- A write at 0x28 issues a command (R24). -/
theorem csrStore_cmd (v : Word) (s : State) : csrStore 0x28 v s = command v s := rfl

/-- Settles O55: the five writable offsets one by one, the five commands at 0x28, and no effect anywhere else. -/
theorem csrWriteMap : Obligations.CsrWriteMap := by
  refine fun a v s => ⟨csrStore a v s, exec_eq_next (.csrWrite a v) s, ?ctrl, ?status, ?flush, ?sreset, ?crcInit, ?popRec, ?popAck,
    ?reserved, ?crcData, ?ackReq, fun hctrl hstatus hcmd hcrc hack => csrStore_of_unwritable hctrl hstatus hcmd hcrc hack v s⟩
  case ctrl =>
    rintro rfl
    rfl
  case status =>
    rintro rfl
    exact ⟨rfl, fun _ => getLsbD_clearFlags s.status v⟩
  case reserved =>
    rintro rfl h
    exact (csrStore_cmd v s).trans (command_of_reserved h s)
  case crcData =>
    rintro rfl
    exact congrArg Host.Outcome.next (csrStore_crcData v s).symm
  case ackReq =>
    rintro rfl
    exact congrArg Host.Outcome.next (csrStore_ackReq v s).symm
  all_goals
    rintro rfl rfl
    rfl

end Sys2Proof.Machine
end

section
/-! Events (60_exceptions R215, R216). -/

namespace Sys2Proof.Machine

open Sys2Proof.Claims

/-- The row of an event in the table of R215, read off the model: STATUS bit, LASTERR code, and the two counter classes. -/
def eventRow (e : Event) : Event × Nat × Option (BitVec 4) × Bool × Bool :=
  (e, eventBit e, eventCode e, eventIsFraming e, decide (e = .crcErr))

/-- The table of R215 lists the model's own bits, codes and classes. -/
theorem eventTable_eq_map_eventRow :
    eventTable = [Event.noise, .garbage, .badStop, .overLen, .runt, .crcErr, .short, .badDate, .ovf].map eventRow := rfl

theorem eq_eventRow_of_mem {row : Event × Nat × Option (BitVec 4) × Bool × Bool} (h : row ∈ eventTable) :
    ∃ e, row = eventRow e := by
  rw [eventTable_eq_map_eventRow] at h
  obtain ⟨e, -, he⟩ := List.mem_map.mp h
  exact ⟨e, he.symm⟩

/-- Raising a flag sets its bit and leaves the other eight (R216). -/
theorem getLsbD_setFlag (e : Event) (status : BitVec 9) {k : Nat} (hk : k < 9) :
    (setFlag e status).getLsbD k = (k == eventBit e || status.getLsbD k) := by
  have hbit : (1#9 <<< eventBit e).getLsbD k = (k == eventBit e) := by
    rw [← BitVec.twoPow_eq, BitVec.getLsbD_twoPow, Bool.eq_iff_iff]
    simp only [Bool.and_eq_true, decide_eq_true_eq, beq_iff_eq]
    omega
  rw [setFlag, BitVec.getLsbD_or, hbit, Bool.or_comm]

/-- LASTOFF takes the offset exactly when the event has a code (R216). -/
theorem raiseEvent_lastOff_eq (e : Event) (o : Word) (s : State) :
    (raiseEvent e o s).lastOff = if eventCode e = none then s.lastOff else o := by
  rw [raiseEvent_lastOff]
  cases eventCode e <;> rfl

/-- CNT_CRCERR counts by the class column of the row (R216). -/
theorem raiseEvent_cntCrcErr_eq (e : Event) (o : Word) (s : State) :
    (raiseEvent e o s).cntCrcErr = if decide (e = .crcErr) then s.cntCrcErr + 1 else s.cntCrcErr := by
  rw [raiseEvent_cntCrcErr]
  simp only [decide_eq_true_eq]

/-- Only STATUS, LASTERR, LASTOFF and the two error counters can change (R216: "Nothing else"). -/
theorem raiseEvent_frame (e : Event) (o : Word) (s : State) :
    raiseEvent e o s = { s with
      status := (raiseEvent e o s).status
      lastErr := (raiseEvent e o s).lastErr
      lastOff := (raiseEvent e o s).lastOff
      cntFramErr := (raiseEvent e o s).cntFramErr
      cntCrcErr := (raiseEvent e o s).cntCrcErr } := rfl

/-- Settles O53: a row of the table is its event's own row, the frame of the event names the registers, and each has its rule. -/
theorem eventEffect : Obligations.EventEffect := by
  intro o s row hrow
  obtain ⟨e, rfl⟩ := eq_eventRow_of_mem hrow
  refine ⟨(raiseEvent_frame e o s).trans ?_, fun k hk => ?_⟩
  · rw [raiseEvent_lastErr, raiseEvent_lastOff_eq, raiseEvent_cntFramErr, raiseEvent_cntCrcErr_eq]
    rfl
  · exact getLsbD_setFlag e s.status hk

end Sys2Proof.Machine
end

section
/-! The reset and the host's own fields (70_reset_and_hazards R240; log 1, log 2). -/

namespace Sys2Proof.Machine

/-- Settles O58: HRESET leads to `resetBlock s`, which takes the pending operations and the last result from `s`. -/
theorem resetKeepsTheHostsFields : Obligations.ResetKeepsTheHostsFields := fun s =>
  ⟨resetBlock s, exec_eq_next .hreset s, resetBlock_inbox s, resetBlock_result s⟩

end Sys2Proof.Machine
end
